-- ==== Sys2Proof/Word.lean ====
section
/-! DEFINITION. The word types of the block and the two-fold index A/B of its planes and channels (spec 00_scope R8, R9, R12). -/

namespace Sys2Proof

/-- A byte of the raw byte region, and one channel of a pixel (00_scope R8). -/
abbrev Byte := BitVec 8

/-- The 24-bit payload of a DCP word, which is also the width of a control register, of a CLUT entry
and of a matte command (00_scope R8, 10_state R22). -/
abbrev Payload := BitVec 24

/-- A DCP word (30_encoding R80), and the value of a host register access (46_sequencer R296). -/
abbrev Word := BitVec 32

/-- The two image planes (00_scope R12). -/
inductive Plane where
  | a
  | b
  deriving DecidableEq, Repr, Inhabited

/-- The two control-program channels (00_scope R12). -/
inductive Channel where
  | a
  | b
  deriving DecidableEq, Repr, Inhabited

/-- The plane that a channel's program belongs to: channel A is "the plane-A channel" (00_scope R14). -/
def Channel.plane : Channel → Plane
  | .a => .a
  | .b => .b

/-- Two like things, one for A and one for B. -/
structure AB (α : Type) where
  a : α
  b : α
  deriving DecidableEq, Repr

/-- The component of plane `p`. -/
def AB.get {α : Type} (v : AB α) : Plane → α
  | .a => v.a
  | .b => v.b

/-- `v` with the component of plane `p` replaced by `x`. -/
def AB.set {α : Type} (v : AB α) (p : Plane) (x : α) : AB α :=
  match p with
  | .a => { v with a := x }
  | .b => { v with b := x }

end Sys2Proof
end

