-- ==== Sys2Proof/Config.lean ====
section
/-! DEFINITION. The implementation parameters of 00_scope R7 as plain data, the encoding and the layouts among them, and the opaque constants for those the spec leaves OPEN. -/

namespace Sys2Proof

/-- `P_DISPLAY_RES`: the resolution class of the display for the cursor (00_scope R7, 45_cursor R275). -/
inductive DisplayRes where
  | normal
  | doubleHigh
  deriving DecidableEq, Repr, Inhabited

/-- `P_RL_OVERRUN`: what a run longer than the rest of the line does (00_scope R7, 41 R176). -/
inductive OverrunPolicy where
  | clamp
  | fault
  deriving DecidableEq, Repr, Inhabited

/-- `MATTE_RESERVED`: what a reserved matte opcode does (00_scope R7, 42 R217). -/
inductive ReservedPolicy where
  | log
  | fault
  deriving DecidableEq, Repr, Inhabited

/-- The control operations that `DCP_CTRL_MAP` gives a code (00_scope R7, 30_encoding R82). -/
inductive Control where
  | stop
  | nop
  | reloadDcp
  | reloadDcpStop
  | reloadVsr
  | reloadVsrStop
  | signal
  | loadDp
  deriving DecidableEq, Repr, Inhabited

/-- The register loads that `DCP_REG_MAP` gives an opcode byte (00_scope R7, 30_encoding R83): those of R83 outside the CLUT
and matte ranges, which are the source's. -/
inductive RegLoad where
  | icm
  | tc
  | po
  | bank
  | tcolA
  | tcolB
  | mcolA
  | mcolB
  | dyuvA
  | dyuvB
  | curpos
  | curctl
  | curpat
  | backdrop
  | mosaicA
  | mosaicB
  | icfA
  | icfB
  deriving DecidableEq, Repr, Inhabited

/-- `DCP_CTRL_MAP` and `DCP_REG_MAP` (00_scope R7): the control operation of each value of `OP[6:4]`, and the one opcode byte
of each register load, in the order of `RegLoad` (log 11). -/
structure DcpMaps where
  ctrl : Vector Control 8
  reg : Vector Byte 18
  deriving DecidableEq, Repr

/-- `MATTE_LAYOUT` (00_scope R7, 30_encoding R97): the least significant bit of each field of a matte command. The widths are
4, 1, 6 and 9 bits. -/
structure MatteLayout where
  mop : Nat
  mf : Nat
  micf : Nat
  mxp : Nat
  deriving DecidableEq, Repr

/-- The parameters that say how words and entries are encoded. -/
structure Encoding where
  dcp : DcpMaps
  matte : MatteLayout
  deriving DecidableEq, Repr

/-- `FIELD_LAYOUT` (00_scope R7, 30_encoding R86 to R96, R103): the least significant bit of each field, whose width the rule
gives. -/
structure FieldLayout where
  /-- `CM_A` of `ICM`, 4 bits (R86). -/
  cmA : Nat
  /-- `CM_B` of `ICM`, 4 bits (R86). -/
  cmB : Nat
  /-- `EV` of `ICM`, 1 bit; no rule reads it (R86). -/
  ev : Nat
  /-- `NM` of `ICM`, 1 bit (R86). -/
  nm : Nat
  /-- `CS` of `ICM`, 1 bit (R86). -/
  cs : Nat
  /-- `TA` of `TC`, 4 bits (R87). -/
  ta : Nat
  /-- `TB` of `TC`, 4 bits (R87). -/
  tb : Nat
  /-- `MX` of `TC`, 1 bit (R87). -/
  mx : Nat
  /-- The mode of a transparency nibble, 3 of its 4 bits (R88). -/
  mode : Nat
  /-- The polarity of a transparency nibble, 1 of its 4 bits (R88). -/
  polarity : Nat
  /-- `BF` of `PO`, 1 bit (R89). -/
  bf : Nat
  /-- `bank` of `CLUTBANK`, 2 bits (R90). -/
  bank : Nat
  /-- Red of a 24-bit colour, 8 bits (R91). -/
  red : Nat
  /-- Green of a 24-bit colour, 8 bits (R91). -/
  green : Nat
  /-- Blue of a 24-bit colour, 8 bits (R91). -/
  blue : Nat
  /-- `Y` of a DYUV seed, 8 bits (R92). -/
  seedY : Nat
  /-- `U` of a DYUV seed, 8 bits (R92). -/
  seedU : Nat
  /-- `V` of a DYUV seed, 8 bits (R92). -/
  seedV : Nat
  /-- `f` of `ICF_p`, 6 bits (R93). -/
  factor : Nat
  /-- The YRGB code of `BACKDROP`, 4 bits (R94). -/
  backdrop : Nat
  /-- The bit of a YRGB code that gates red; bit 3, the intensity, is the source's (R94). -/
  gateR : Nat
  /-- The bit of a YRGB code that gates green (R94). -/
  gateG : Nat
  /-- The bit of a YRGB code that gates blue (R94). -/
  gateB : Nat
  /-- `PH` of `MOSAIC_p`, 1 bit; no rule reads it (R96). -/
  hold : Nat
  /-- `PHF` of `MOSAIC_p`, 8 bits; no rule reads it (R96). -/
  holdFactor : Nat
  /-- Red of an RGB555 word, 5 bits (R103). -/
  red5 : Nat
  /-- Green of an RGB555 word, 5 bits (R103). -/
  green5 : Nat
  /-- Blue of an RGB555 word, 5 bits (R103). -/
  blue5 : Nat
  /-- The plane whose stream gives the high byte of an RGB555 word (R103, 20_memory R64). -/
  highByte : Plane
  deriving DecidableEq, Repr

/-- `YUV2RGB` (00_scope R7): the function of 41 R173, or a function of which nothing is known (log 12). -/
inductive YuvMap where
  | standard
  | other (n : Nat)
  deriving DecidableEq, Repr

/-- The place of a bit field in a 24-bit value: its least significant bit and its width. -/
structure Field where
  lo : Nat
  width : Nat
  deriving DecidableEq, Repr, Inhabited

/-- `CURSOR_LAYOUT` (00_scope R7, 30_encoding R95): where the fields of `CURPOS`, `CURCTL` and of a `CURPAT`
load stand. The spec leaves it OPEN, so it is data. The flags `CEN`, `CBLK` and `CRES` are single bits, and `ccol` (4 bits),
`row` (4 bits) and `bits` (16 bits) are least significant bits; the other fields have a width of their own (log 13). `CBLK`
has a place and no rule reads it (45_cursor R277). -/
structure CursorLayout where
  cx : Field
  cy : Field
  cen : Nat
  cblk : Nat
  con : Field
  coff : Field
  cres : Nat
  ccol : Nat
  row : Nat
  bits : Nat
  deriving DecidableEq, Repr, Inhabited

/-- The parameters of 00_scope R7 that a machine fixes (log 1). A configuration that R315 refuses (a width that is
not a positive multiple of 4, no line, a region size that is no power of two up to 2^20, a blink unit of 0) cannot
be written: those parameters are held by what they may be chosen from. -/
structure Config where
  /-- `DCP_CTRL_MAP`, `DCP_REG_MAP` and `MATTE_LAYOUT`. -/
  enc : Encoding
  /-- `FIELD_LAYOUT`. -/
  fields : FieldLayout
  /-- `P_WD = 4 * (widthQuads + 1)`. -/
  widthQuads : Nat
  /-- `P_H = heightPred + 1`. -/
  heightPred : Nat
  /-- `P_REGION_SIZE = 2 ^ regionLog2`. -/
  regionLog2 : Fin 21
  /-- `P_DISPLAY_RES`. -/
  displayRes : DisplayRes
  /-- `P_INT_LINE[ch]`. -/
  intLine : AB Nat
  /-- `P_CH_A_WRITES_B`. -/
  chAWritesB : Bool
  /-- `P_SIGNAL_STOPS`. -/
  signalStops : Bool
  /-- `DEQUANT`, the 16 entries of 41 R172. -/
  dequant : Vector Byte 16
  /-- `YUV2RGB`. -/
  yuv : YuvMap
  /-- `RGB5_EXPAND`, as the table of its 32 values. -/
  rgb5 : Vector Byte 32
  /-- `P_RL_OVERRUN`. -/
  rlOverrun : OverrunPolicy
  /-- `MATTE_RESERVED`. -/
  matteReserved : ReservedPolicy
  /-- `P_COLOR_KEY_MASK`. -/
  keyMask : Payload
  /-- `P_BD_FULL`. -/
  bdFull : Byte
  /-- `P_BD_HALF`. -/
  bdHalf : Byte
  /-- `CURSOR_LAYOUT`. -/
  cursor : CursorLayout
  /-- `P_BLINK_UNIT = blinkUnitPred + 1`. -/
  blinkUnitPred : Nat
  deriving DecidableEq, Repr

/-- `P_WD`, the width of every line buffer in pixels (00_scope R7). -/
def Config.width (c : Config) : Nat := 4 * (c.widthQuads + 1)
/-- `P_H`, the number of scanlines of a frame (00_scope R7). -/
def Config.height (c : Config) : Nat := c.heightPred + 1
/-- `P_REGION_SIZE` in bytes (00_scope R7). -/
def Config.regionSize (c : Config) : Nat := 2 ^ c.regionLog2.val
/-- `P_BLINK_UNIT` in finalised frames (00_scope R7). -/
def Config.blinkUnit (c : Config) : Nat := c.blinkUnitPred + 1

/-- The OPEN width of the implementation (`P_WD`, 92 D2): nothing is known of it. DESIGN CHOICE, log 1, safe. -/
opaque Config.openWidthQuads : Nat
/-- The OPEN line count of the implementation (`P_H`, 92 D2). DESIGN CHOICE, log 1, safe. -/
opaque Config.openHeightPred : Nat
/-- The OPEN display resolution (`P_DISPLAY_RES`, 92 D29). DESIGN CHOICE, log 1, safe. -/
opaque Config.openDisplayRes : DisplayRes
/-- The OPEN interrupt line of each channel (`P_INT_LINE`, 92 D32). DESIGN CHOICE, log 1, safe. -/
opaque Config.openIntLine : Channel → Nat
/-- The OPEN interrupt disable input of each channel when the machine starts (`P_INT_DISABLE`, 92 D32).
DESIGN CHOICE, log 4, safe. -/
opaque Config.openIntDisable : Channel → Bool
/-- The functions that `YUV2RGB` may be other than that of 41 R173: red, green and blue of a Y, U and V. Nothing is known of
them (log 12), safe. -/
opaque Config.otherYuv2rgb : Nat → Byte → Byte → Byte → Byte × Byte × Byte
/-- The OPEN layout of the cursor registers (`CURSOR_LAYOUT`, 92 D30). DESIGN CHOICE, log 13, safe. -/
opaque Config.openCursorLayout : CursorLayout
/-- The OPEN blink unit (`P_BLINK_UNIT`, 92 D30). DESIGN CHOICE, log 1, safe. -/
opaque Config.openBlinkUnitPred : Nat

end Sys2Proof
end

