-- ==== Sys2Proof/Syntax.lean ====
section
/-! DEFINITION. The instructions: one constructor per row of spec/opcode_table.json (30_encoding R80 to R84, R97, R98). -/

namespace Sys2Proof

/-- One constructor per row of the opcode table, in the table's order: the 32-bit DCP words (30_encoding R80)
and then the 24-bit matte commands (30_encoding R97).

Operands. `x` is the nibble `OP[3:0]` that a control operation ignores (R85); it is kept because the fault
record of LOAD_DP holds the whole word (60_exceptions R311). `d` is the payload `D[23:0]`. A matte command
carries its flag number `mf`, its factor `micf` and its X position `mxp` (R97); the bits that R97 does not
name are dropped by decoding (log 21). -/
inductive Instr where
  /-- STOP: 40_dcp_interpreter R113. -/
  | stop (x : BitVec 4) (d : Payload)
  /-- NOP: 40_dcp_interpreter R114. -/
  | nop (x : BitVec 4) (d : Payload)
  /-- RELOAD_DCP: 40_dcp_interpreter R115. -/
  | reloadDcp (x : BitVec 4) (d : Payload)
  /-- RELOAD_DCP_STOP: 40_dcp_interpreter R116. -/
  | reloadDcpStop (x : BitVec 4) (d : Payload)
  /-- RELOAD_VSR: 40_dcp_interpreter R117. -/
  | reloadVsr (x : BitVec 4) (d : Payload)
  /-- RELOAD_VSR_STOP: 40_dcp_interpreter R118. -/
  | reloadVsrStop (x : BitVec 4) (d : Payload)
  /-- SIGNAL: 40_dcp_interpreter R119. -/
  | signal (x : BitVec 4) (d : Payload)
  /-- LOAD_DP: 40_dcp_interpreter R120. -/
  | loadDp (x : BitVec 4) (d : Payload)
  /-- LOAD_CLUT `n`: 40_dcp_interpreter R121. -/
  | loadClut (n : BitVec 6) (d : Payload)
  /-- LOAD_ICM: 40_dcp_interpreter R122. -/
  | loadIcm (d : Payload)
  /-- LOAD_TC: 40_dcp_interpreter R123. -/
  | loadTc (d : Payload)
  /-- LOAD_PO: 40_dcp_interpreter R124. -/
  | loadPo (d : Payload)
  /-- LOAD_BANK: 40_dcp_interpreter R125. -/
  | loadBank (d : Payload)
  /-- LOAD_TCOL_A: 40_dcp_interpreter R126. -/
  | loadTcolA (d : Payload)
  /-- LOAD_TCOL_B: 40_dcp_interpreter R127. -/
  | loadTcolB (d : Payload)
  /-- LOAD_MCOL_A: 40_dcp_interpreter R128. -/
  | loadMcolA (d : Payload)
  /-- LOAD_MCOL_B: 40_dcp_interpreter R129. -/
  | loadMcolB (d : Payload)
  /-- LOAD_DYUV_A: 40_dcp_interpreter R130. -/
  | loadDyuvA (d : Payload)
  /-- LOAD_DYUV_B: 40_dcp_interpreter R131. -/
  | loadDyuvB (d : Payload)
  /-- LOAD_CURPOS: 40_dcp_interpreter R132. -/
  | loadCurpos (d : Payload)
  /-- LOAD_CURCTL: 40_dcp_interpreter R133. -/
  | loadCurctl (d : Payload)
  /-- LOAD_CURPAT: 40_dcp_interpreter R134. -/
  | loadCurpat (d : Payload)
  /-- LOAD_MATTE `i`: 40_dcp_interpreter R135. -/
  | loadMatte (i : BitVec 3) (d : Payload)
  /-- LOAD_BACKDROP: 40_dcp_interpreter R136. -/
  | loadBackdrop (d : Payload)
  /-- LOAD_MOSAIC_A: 40_dcp_interpreter R137. -/
  | loadMosaicA (d : Payload)
  /-- LOAD_MOSAIC_B: 40_dcp_interpreter R138. -/
  | loadMosaicB (d : Payload)
  /-- LOAD_ICF_A: 40_dcp_interpreter R139. -/
  | loadIcfA (d : Payload)
  /-- LOAD_ICF_B: 40_dcp_interpreter R140. -/
  | loadIcfB (d : Payload)
  /-- UNKNOWN, opcode byte 0xC5: 40_dcp_interpreter R141. -/
  | unknownC5 (d : Payload)
  /-- UNKNOWN, opcode byte 0xC8: 40_dcp_interpreter R141. -/
  | unknownC8 (d : Payload)
  /-- UNKNOWN, opcode byte 0xCC: 40_dcp_interpreter R141. -/
  | unknownCC (d : Payload)
  /-- UNKNOWN, opcode byte 0xDD: 40_dcp_interpreter R141. -/
  | unknownDD (d : Payload)
  /-- UNKNOWN, opcode byte 0xDE: 40_dcp_interpreter R141. -/
  | unknownDE (d : Payload)
  /-- UNKNOWN, opcode byte 0xDF: 40_dcp_interpreter R141. -/
  | unknownDF (d : Payload)
  /-- UNKNOWN, an opcode byte `op` from 0xE0 to 0xFF: 40_dcp_interpreter R141. -/
  | unknownE0 (op : Byte) (d : Payload)
  /-- M_END, matte opcode 0000: 42_matte_tracker R214. -/
  | mEnd (mf : BitVec 1) (micf : BitVec 6) (mxp : BitVec 9)
  /-- M_RSVD, matte opcode 0001: 42_matte_tracker R217. -/
  | mRsvd1 (mf : BitVec 1) (micf : BitVec 6) (mxp : BitVec 9)
  /-- M_RSVD, matte opcode 0010: 42_matte_tracker R217. -/
  | mRsvd2 (mf : BitVec 1) (micf : BitVec 6) (mxp : BitVec 9)
  /-- M_RSVD, matte opcode 0011: 42_matte_tracker R217. -/
  | mRsvd3 (mf : BitVec 1) (micf : BitVec 6) (mxp : BitVec 9)
  /-- M_ICF_A, matte opcode 0100: 42_matte_tracker R215. -/
  | mIcfA (mf : BitVec 1) (micf : BitVec 6) (mxp : BitVec 9)
  /-- M_RSVD, matte opcode 0101: 42_matte_tracker R217. -/
  | mRsvd5 (mf : BitVec 1) (micf : BitVec 6) (mxp : BitVec 9)
  /-- M_ICF_B, matte opcode 0110: 42_matte_tracker R215. -/
  | mIcfB (mf : BitVec 1) (micf : BitVec 6) (mxp : BitVec 9)
  /-- M_RSVD, matte opcode 0111: 42_matte_tracker R217. -/
  | mRsvd7 (mf : BitVec 1) (micf : BitVec 6) (mxp : BitVec 9)
  /-- M_CLR, matte opcode 1000: 42_matte_tracker R216. -/
  | mClr (mf : BitVec 1) (micf : BitVec 6) (mxp : BitVec 9)
  /-- M_SET, matte opcode 1001: 42_matte_tracker R216. -/
  | mSet (mf : BitVec 1) (micf : BitVec 6) (mxp : BitVec 9)
  /-- M_RSVD, matte opcode 1010: 42_matte_tracker R217. -/
  | mRsvdA (mf : BitVec 1) (micf : BitVec 6) (mxp : BitVec 9)
  /-- M_RSVD, matte opcode 1011: 42_matte_tracker R217. -/
  | mRsvdB (mf : BitVec 1) (micf : BitVec 6) (mxp : BitVec 9)
  /-- M_ICF_A_CLR, matte opcode 1100: 42_matte_tracker R218. -/
  | mIcfAClr (mf : BitVec 1) (micf : BitVec 6) (mxp : BitVec 9)
  /-- M_ICF_A_SET, matte opcode 1101: 42_matte_tracker R218. -/
  | mIcfASet (mf : BitVec 1) (micf : BitVec 6) (mxp : BitVec 9)
  /-- M_ICF_B_CLR, matte opcode 1110: 42_matte_tracker R218. -/
  | mIcfBClr (mf : BitVec 1) (micf : BitVec 6) (mxp : BitVec 9)
  /-- M_ICF_B_SET, matte opcode 1111: 42_matte_tracker R218. -/
  | mIcfBSet (mf : BitVec 1) (micf : BitVec 6) (mxp : BitVec 9)
  deriving DecidableEq, Repr

/-- The mnemonic of the instruction's row in spec/opcode_table.json. -/
def Instr.mnemonic : Instr → String
  | .stop _ _ => "STOP"
  | .nop _ _ => "NOP"
  | .reloadDcp _ _ => "RELOAD_DCP"
  | .reloadDcpStop _ _ => "RELOAD_DCP_STOP"
  | .reloadVsr _ _ => "RELOAD_VSR"
  | .reloadVsrStop _ _ => "RELOAD_VSR_STOP"
  | .signal _ _ => "SIGNAL"
  | .loadDp _ _ => "LOAD_DP"
  | .loadClut _ _ => "LOAD_CLUT"
  | .loadIcm _ => "LOAD_ICM"
  | .loadTc _ => "LOAD_TC"
  | .loadPo _ => "LOAD_PO"
  | .loadBank _ => "LOAD_BANK"
  | .loadTcolA _ => "LOAD_TCOL_A"
  | .loadTcolB _ => "LOAD_TCOL_B"
  | .loadMcolA _ => "LOAD_MCOL_A"
  | .loadMcolB _ => "LOAD_MCOL_B"
  | .loadDyuvA _ => "LOAD_DYUV_A"
  | .loadDyuvB _ => "LOAD_DYUV_B"
  | .loadCurpos _ => "LOAD_CURPOS"
  | .loadCurctl _ => "LOAD_CURCTL"
  | .loadCurpat _ => "LOAD_CURPAT"
  | .loadMatte _ _ => "LOAD_MATTE"
  | .loadBackdrop _ => "LOAD_BACKDROP"
  | .loadMosaicA _ => "LOAD_MOSAIC_A"
  | .loadMosaicB _ => "LOAD_MOSAIC_B"
  | .loadIcfA _ => "LOAD_ICF_A"
  | .loadIcfB _ => "LOAD_ICF_B"
  | .unknownC5 _ => "UNKNOWN"
  | .unknownC8 _ => "UNKNOWN"
  | .unknownCC _ => "UNKNOWN"
  | .unknownDD _ => "UNKNOWN"
  | .unknownDE _ => "UNKNOWN"
  | .unknownDF _ => "UNKNOWN"
  | .unknownE0 _ _ => "UNKNOWN"
  | .mEnd _ _ _ => "M_END"
  | .mRsvd1 _ _ _ => "M_RSVD"
  | .mRsvd2 _ _ _ => "M_RSVD"
  | .mRsvd3 _ _ _ => "M_RSVD"
  | .mIcfA _ _ _ => "M_ICF_A"
  | .mRsvd5 _ _ _ => "M_RSVD"
  | .mIcfB _ _ _ => "M_ICF_B"
  | .mRsvd7 _ _ _ => "M_RSVD"
  | .mClr _ _ _ => "M_CLR"
  | .mSet _ _ _ => "M_SET"
  | .mRsvdA _ _ _ => "M_RSVD"
  | .mRsvdB _ _ _ => "M_RSVD"
  | .mIcfAClr _ _ _ => "M_ICF_A_CLR"
  | .mIcfASet _ _ _ => "M_ICF_A_SET"
  | .mIcfBClr _ _ _ => "M_ICF_B_CLR"
  | .mIcfBSet _ _ _ => "M_ICF_B_SET"

/-- Whether the instruction is a matte command (an entry of `MATTE`, 30_encoding R97) and not a DCP word. -/
def Instr.isMatte : Instr → Bool
  | .stop _ _ => false
  | .nop _ _ => false
  | .reloadDcp _ _ => false
  | .reloadDcpStop _ _ => false
  | .reloadVsr _ _ => false
  | .reloadVsrStop _ _ => false
  | .signal _ _ => false
  | .loadDp _ _ => false
  | .loadClut _ _ => false
  | .loadIcm _ => false
  | .loadTc _ => false
  | .loadPo _ => false
  | .loadBank _ => false
  | .loadTcolA _ => false
  | .loadTcolB _ => false
  | .loadMcolA _ => false
  | .loadMcolB _ => false
  | .loadDyuvA _ => false
  | .loadDyuvB _ => false
  | .loadCurpos _ => false
  | .loadCurctl _ => false
  | .loadCurpat _ => false
  | .loadMatte _ _ => false
  | .loadBackdrop _ => false
  | .loadMosaicA _ => false
  | .loadMosaicB _ => false
  | .loadIcfA _ => false
  | .loadIcfB _ => false
  | .unknownC5 _ => false
  | .unknownC8 _ => false
  | .unknownCC _ => false
  | .unknownDD _ => false
  | .unknownDE _ => false
  | .unknownDF _ => false
  | .unknownE0 _ _ => false
  | .mEnd _ _ _ => true
  | .mRsvd1 _ _ _ => true
  | .mRsvd2 _ _ _ => true
  | .mRsvd3 _ _ _ => true
  | .mIcfA _ _ _ => true
  | .mRsvd5 _ _ _ => true
  | .mIcfB _ _ _ => true
  | .mRsvd7 _ _ _ => true
  | .mClr _ _ _ => true
  | .mSet _ _ _ => true
  | .mRsvdA _ _ _ => true
  | .mRsvdB _ _ _ => true
  | .mIcfAClr _ _ _ => true
  | .mIcfASet _ _ _ => true
  | .mIcfBClr _ _ _ => true
  | .mIcfBSet _ _ _ => true

end Sys2Proof
end

