-- ==== Sys2Proof/WellFormed.lean ====
section
/-! DEFINITION. Which instruction terms the encodings admit (30_encoding R80 to R84, R97). -/

namespace Sys2Proof

/-- The one operand that is wider than its encoding allows is the opcode byte of the row 0xE0 to 0xFF
(30_encoding R84): its bits 7 to 5 must be 111. Every other operand has exactly the width of its field,
so every value of it is encodable. -/
def Instr.wellFormed : Instr → Bool
  | .stop _ _ => true
  | .nop _ _ => true
  | .reloadDcp _ _ => true
  | .reloadDcpStop _ _ => true
  | .reloadVsr _ _ => true
  | .reloadVsrStop _ _ => true
  | .signal _ _ => true
  | .loadDp _ _ => true
  | .loadClut _ _ => true
  | .loadIcm _ => true
  | .loadTc _ => true
  | .loadPo _ => true
  | .loadBank _ => true
  | .loadTcolA _ => true
  | .loadTcolB _ => true
  | .loadMcolA _ => true
  | .loadMcolB _ => true
  | .loadDyuvA _ => true
  | .loadDyuvB _ => true
  | .loadCurpos _ => true
  | .loadCurctl _ => true
  | .loadCurpat _ => true
  | .loadMatte _ _ => true
  | .loadBackdrop _ => true
  | .loadMosaicA _ => true
  | .loadMosaicB _ => true
  | .loadIcfA _ => true
  | .loadIcfB _ => true
  | .unknownC5 _ => true
  | .unknownC8 _ => true
  | .unknownCC _ => true
  | .unknownDD _ => true
  | .unknownDE _ => true
  | .unknownDF _ => true
  | .unknownE0 op _ => op.extractLsb' 5 3 == 7#3
  | .mEnd _ _ _ => true
  | .mRsvd1 _ _ _ => true
  | .mRsvd2 _ _ _ => true
  | .mRsvd3 _ _ _ => true
  | .mIcfA _ _ _ => true
  | .mRsvd5 _ _ _ => true
  | .mIcfB _ _ _ => true
  | .mRsvd7 _ _ _ => true
  | .mClr _ _ _ => true
  | .mSet _ _ _ => true
  | .mRsvdA _ _ _ => true
  | .mRsvdB _ _ _ => true
  | .mIcfAClr _ _ _ => true
  | .mIcfASet _ _ _ => true
  | .mIcfBClr _ _ _ => true
  | .mIcfBSet _ _ _ => true

end Sys2Proof
end

