-- ==== Sys2Proof/Decode.lean ====
section
/-! DEFINITION. The decoder and the encoder of DCP words and matte commands (spec 30_encoding R80 to R84, R97, R98). -/

namespace Sys2Proof

/-- Why a byte sequence is no instruction. -/
inductive DecodeError where
  /-- A DCP word has 4 bytes (30_encoding R80) and a matte command is a 24-bit entry (R97); `n` bytes are neither. -/
  | badLength (n : Nat)
  deriving DecidableEq, Repr

/-! ## The encoding parameters -/

/-- The default `DCP_CTRL_MAP` (30_encoding R82) and `DCP_REG_MAP` (30_encoding R83), log 11. -/
def defaultDcpMaps : DcpMaps where
  ctrl := #v[.stop, .nop, .reloadDcp, .reloadDcpStop, .reloadVsr, .reloadVsrStop, .signal, .loadDp]
  reg := #v[0xC0, 0xC1, 0xC2, 0xC3, 0xC4, 0xC6, 0xC7, 0xC9, 0xCA, 0xCB, 0xCD, 0xCE, 0xCF, 0xD8, 0xD9, 0xDA, 0xDB, 0xDC]

/-- The default `MATTE_LAYOUT` (30_encoding R97), log 11. -/
def defaultMatteLayout : MatteLayout := ⟨20, 16, 10, 1⟩

/-- The default encoding, which is that of spec/opcode_table.json. -/
def defaultEncoding : Encoding := ⟨defaultDcpMaps, defaultMatteLayout⟩

/-- The register loads in the order of 30_encoding R83. -/
def RegLoad.all : List RegLoad :=
  [.icm, .tc, .po, .bank, .tcolA, .tcolB, .mcolA, .mcolB, .dyuvA, .dyuvB, .curpos, .curctl, .curpat, .backdrop,
    .mosaicA, .mosaicB, .icfA, .icfB]

/-- The place of a register load in that order. -/
def RegLoad.index : RegLoad → Fin 18
  | .icm => 0
  | .tc => 1
  | .po => 2
  | .bank => 3
  | .tcolA => 4
  | .tcolB => 5
  | .mcolA => 6
  | .mcolB => 7
  | .dyuvA => 8
  | .dyuvB => 9
  | .curpos => 10
  | .curctl => 11
  | .curpat => 12
  | .backdrop => 13
  | .mosaicA => 14
  | .mosaicB => 15
  | .icfA => 16
  | .icfB => 17

/-- The opcode byte of a register load (30_encoding R83). -/
def DcpMaps.code (m : DcpMaps) (l : RegLoad) : Byte := m.reg[l.index.val]'l.index.isLt

/-- `DCP_REG_MAP(OP)` (30_encoding R81): the load whose byte is `op`, where there is one. -/
def DcpMaps.find (m : DcpMaps) (op : Byte) : Option RegLoad := RegLoad.all.find? fun l => m.code l == op

/-- The code that `DCP_CTRL_MAP` gives a control operation: the first one, where a map gives it several (log 11). -/
def DcpMaps.controlCode (m : DcpMaps) (k : Control) : BitVec 3 := BitVec.ofNat 3 (m.ctrl.toList.findIdx (· == k))

/-! ## DCP words -/

/-- The instruction of a control operation, with the ignored nibble `x`. -/
def Control.instr (x : BitVec 4) (d : Payload) : Control → Instr
  | .stop => .stop x d
  | .nop => .nop x d
  | .reloadDcp => .reloadDcp x d
  | .reloadDcpStop => .reloadDcpStop x d
  | .reloadVsr => .reloadVsr x d
  | .reloadVsrStop => .reloadVsrStop x d
  | .signal => .signal x d
  | .loadDp => .loadDp x d

/-- `DCP_CTRL_MAP(OP[6:4])` (30_encoding R81, R82), with the ignored nibble `x`. -/
def decodeControl (m : DcpMaps) (kind : BitVec 3) (x : BitVec 4) (d : Payload) : Instr :=
  (m.ctrl[kind.toNat]'kind.isLt).instr x d

/-- The instruction of a register load. -/
def RegLoad.instr (d : Payload) : RegLoad → Instr
  | .icm => .loadIcm d
  | .tc => .loadTc d
  | .po => .loadPo d
  | .bank => .loadBank d
  | .tcolA => .loadTcolA d
  | .tcolB => .loadTcolB d
  | .mcolA => .loadMcolA d
  | .mcolB => .loadMcolB d
  | .dyuvA => .loadDyuvA d
  | .dyuvB => .loadDyuvB d
  | .curpos => .loadCurpos d
  | .curctl => .loadCurctl d
  | .curpat => .loadCurpat d
  | .backdrop => .loadBackdrop d
  | .mosaicA => .loadMosaicA d
  | .mosaicB => .loadMosaicB d
  | .icfA => .loadIcfA d
  | .icfB => .loadIcfB d

/-- The UNKNOWN instruction of an opcode byte (30_encoding R84). With the default maps the last arm takes exactly the bytes
0xE0 to 0xFF; with other maps it takes every unknown byte that has no row of its own (log 11). -/
def unknownOf (op : Byte) (d : Payload) : Instr :=
  match op.toNat with
  | 0xC5 => .unknownC5 d
  | 0xC8 => .unknownC8 d
  | 0xCC => .unknownCC d
  | 0xDD => .unknownDD d
  | 0xDE => .unknownDE d
  | 0xDF => .unknownDF d
  | _ => .unknownE0 op d

/-- The register load of an opcode byte from 0xC0 that is not in the matte range, or UNKNOWN (30_encoding R81, R83, R84). -/
def decodeRegLoad (m : DcpMaps) (op : Byte) (d : Payload) : Instr :=
  match m.find op with
  | some l => l.instr d
  | none => unknownOf op d

/-- The class of a DCP word, tested in the order of 30_encoding R81. Every word decodes. -/
def decodeDcp (m : DcpMaps) (w : Word) : Instr :=
  let op : Byte := w.extractLsb' 24 8
  let d : Payload := w.extractLsb' 0 24
  if op.getLsbD 7 = false then decodeControl m (op.extractLsb' 4 3) (op.extractLsb' 0 4) d
  else if op.toNat ≤ 0xBF then .loadClut (op.extractLsb' 0 6) d
  else if 0xD0 ≤ op.toNat ∧ op.toNat ≤ 0xD7 then .loadMatte (op.extractLsb' 0 3) d
  else decodeRegLoad m op d

/-! ## Matte commands -/

/-- `MOP`, by default bits 23 to 20 (30_encoding R97). -/
def matteOp (l : MatteLayout) (c : Payload) : BitVec 4 := c.extractLsb' l.mop 4
/-- `MF`, by default bit 16 (30_encoding R97). -/
def matteFlagIndex (l : MatteLayout) (c : Payload) : BitVec 1 := c.extractLsb' l.mf 1
/-- `MICF`, by default bits 15 to 10 (30_encoding R97). -/
def matteFactor (l : MatteLayout) (c : Payload) : BitVec 6 := c.extractLsb' l.micf 6
/-- `MXP`, by default bits 9 to 1 (30_encoding R97). -/
def matteX (l : MatteLayout) (c : Payload) : BitVec 9 := c.extractLsb' l.mxp 9

/-- The matte command that a 24-bit entry of `MATTE` holds (30_encoding R98). Every entry decodes. -/
def decodeMatte (l : MatteLayout) (c : Payload) : Instr :=
  let mf := matteFlagIndex l c
  let micf := matteFactor l c
  let mxp := matteX l c
  match (matteOp l c).toNat with
  | 0 => .mEnd mf micf mxp
  | 1 => .mRsvd1 mf micf mxp
  | 2 => .mRsvd2 mf micf mxp
  | 3 => .mRsvd3 mf micf mxp
  | 4 => .mIcfA mf micf mxp
  | 5 => .mRsvd5 mf micf mxp
  | 6 => .mIcfB mf micf mxp
  | 7 => .mRsvd7 mf micf mxp
  | 8 => .mClr mf micf mxp
  | 9 => .mSet mf micf mxp
  | 10 => .mRsvdA mf micf mxp
  | 11 => .mRsvdB mf micf mxp
  | 12 => .mIcfAClr mf micf mxp
  | 13 => .mIcfASet mf micf mxp
  | 14 => .mIcfBClr mf micf mxp
  | _ => .mIcfBSet mf micf mxp

/-! ## Bytes -/

/-- Four bytes as a big-endian word (20_memory R62, R63). -/
def wordOfBytes (b0 b1 b2 b3 : Byte) : Word := b0 ++ b1 ++ b2 ++ b3

/-- Decoding of a byte sequence, most significant byte first: four bytes are a DCP word, three are a matte
entry, anything else is rejected by name. -/
def decode (e : Encoding) : List Byte → Except DecodeError Instr
  | [b0, b1, b2, b3] => .ok (decodeDcp e.dcp (wordOfBytes b0 b1 b2 b3))
  | [b0, b1, b2] => .ok (decodeMatte e.matte (b0 ++ b1 ++ b2))
  | bs => .error (.badLength bs.length)

/-! ## The encoder, for the default encoding -/

/-- A DCP word of opcode byte `op` and payload `d` (30_encoding R80). -/
def dcpWord (op : Byte) (d : Payload) : Word := op ++ d

/-- A control operation's word: `OP[7:4] = kind`, `OP[3:0] = x` (30_encoding R82). -/
def controlWord (kind : BitVec 4) (x : BitVec 4) (d : Payload) : Word := dcpWord (kind ++ x) d

/-- A matte entry (30_encoding R97); the bits no field names are 0. -/
def matteEntry (mop : BitVec 4) (mf : BitVec 1) (micf : BitVec 6) (mxp : BitVec 9) : Payload :=
  mop ++ 0#3 ++ mf ++ micf ++ mxp ++ 0#1

/-- The bytes of a word, most significant first (20_memory R63). -/
def bytesOfWord (w : Word) : List Byte :=
  [w.extractLsb' 24 8, w.extractLsb' 16 8, w.extractLsb' 8 8, w.extractLsb' 0 8]

/-- The bytes of a 24-bit entry, most significant first. -/
def bytesOfEntry (c : Payload) : List Byte :=
  [c.extractLsb' 16 8, c.extractLsb' 8 8, c.extractLsb' 0 8]

/-- The bytes of a well-formed instruction, from the encoding tables of 30_encoding R82, R83, R84, R97 and R98. -/
def encode : Instr → List Byte
  | .stop x d => bytesOfWord (controlWord 0#4 x d)
  | .nop x d => bytesOfWord (controlWord 1#4 x d)
  | .reloadDcp x d => bytesOfWord (controlWord 2#4 x d)
  | .reloadDcpStop x d => bytesOfWord (controlWord 3#4 x d)
  | .reloadVsr x d => bytesOfWord (controlWord 4#4 x d)
  | .reloadVsrStop x d => bytesOfWord (controlWord 5#4 x d)
  | .signal x d => bytesOfWord (controlWord 6#4 x d)
  | .loadDp x d => bytesOfWord (controlWord 7#4 x d)
  | .loadClut n d => bytesOfWord (dcpWord (0b10#2 ++ n) d)
  | .loadIcm d => bytesOfWord (dcpWord 0xC0#8 d)
  | .loadTc d => bytesOfWord (dcpWord 0xC1#8 d)
  | .loadPo d => bytesOfWord (dcpWord 0xC2#8 d)
  | .loadBank d => bytesOfWord (dcpWord 0xC3#8 d)
  | .loadTcolA d => bytesOfWord (dcpWord 0xC4#8 d)
  | .loadTcolB d => bytesOfWord (dcpWord 0xC6#8 d)
  | .loadMcolA d => bytesOfWord (dcpWord 0xC7#8 d)
  | .loadMcolB d => bytesOfWord (dcpWord 0xC9#8 d)
  | .loadDyuvA d => bytesOfWord (dcpWord 0xCA#8 d)
  | .loadDyuvB d => bytesOfWord (dcpWord 0xCB#8 d)
  | .loadCurpos d => bytesOfWord (dcpWord 0xCD#8 d)
  | .loadCurctl d => bytesOfWord (dcpWord 0xCE#8 d)
  | .loadCurpat d => bytesOfWord (dcpWord 0xCF#8 d)
  | .loadMatte i d => bytesOfWord (dcpWord (0b11010#5 ++ i) d)
  | .loadBackdrop d => bytesOfWord (dcpWord 0xD8#8 d)
  | .loadMosaicA d => bytesOfWord (dcpWord 0xD9#8 d)
  | .loadMosaicB d => bytesOfWord (dcpWord 0xDA#8 d)
  | .loadIcfA d => bytesOfWord (dcpWord 0xDB#8 d)
  | .loadIcfB d => bytesOfWord (dcpWord 0xDC#8 d)
  | .unknownC5 d => bytesOfWord (dcpWord 0xC5#8 d)
  | .unknownC8 d => bytesOfWord (dcpWord 0xC8#8 d)
  | .unknownCC d => bytesOfWord (dcpWord 0xCC#8 d)
  | .unknownDD d => bytesOfWord (dcpWord 0xDD#8 d)
  | .unknownDE d => bytesOfWord (dcpWord 0xDE#8 d)
  | .unknownDF d => bytesOfWord (dcpWord 0xDF#8 d)
  | .unknownE0 op d => bytesOfWord (dcpWord op d)
  | .mEnd mf micf mxp => bytesOfEntry (matteEntry 0#4 mf micf mxp)
  | .mRsvd1 mf micf mxp => bytesOfEntry (matteEntry 1#4 mf micf mxp)
  | .mRsvd2 mf micf mxp => bytesOfEntry (matteEntry 2#4 mf micf mxp)
  | .mRsvd3 mf micf mxp => bytesOfEntry (matteEntry 3#4 mf micf mxp)
  | .mIcfA mf micf mxp => bytesOfEntry (matteEntry 4#4 mf micf mxp)
  | .mRsvd5 mf micf mxp => bytesOfEntry (matteEntry 5#4 mf micf mxp)
  | .mIcfB mf micf mxp => bytesOfEntry (matteEntry 6#4 mf micf mxp)
  | .mRsvd7 mf micf mxp => bytesOfEntry (matteEntry 7#4 mf micf mxp)
  | .mClr mf micf mxp => bytesOfEntry (matteEntry 8#4 mf micf mxp)
  | .mSet mf micf mxp => bytesOfEntry (matteEntry 9#4 mf micf mxp)
  | .mRsvdA mf micf mxp => bytesOfEntry (matteEntry 10#4 mf micf mxp)
  | .mRsvdB mf micf mxp => bytesOfEntry (matteEntry 11#4 mf micf mxp)
  | .mIcfAClr mf micf mxp => bytesOfEntry (matteEntry 12#4 mf micf mxp)
  | .mIcfASet mf micf mxp => bytesOfEntry (matteEntry 13#4 mf micf mxp)
  | .mIcfBClr mf micf mxp => bytesOfEntry (matteEntry 14#4 mf micf mxp)
  | .mIcfBSet mf micf mxp => bytesOfEntry (matteEntry 15#4 mf micf mxp)

/-- The host's question: the instruction whose bits are `w`, laid out as the hardware holds them, in the default encoding. A row of at
most 24 bits is a matte entry, a row of 25 to 32 bits a DCP word (log 29). -/
def decodeTableWord (nbits w : Nat) : Option Instr :=
  let bytes :=
    if nbits ≤ 24 then bytesOfEntry (BitVec.ofNat 24 w) else bytesOfWord (BitVec.ofNat 32 w)
  if nbits ≤ 32 then
    match decode defaultEncoding bytes with
    | .ok i => some i
    | .error _ => none
  else none

end Sys2Proof
end

