-- ==== Sys2Proof/Machine/Defaults.lean ====
section
/-! DEFINITION. The default values of the parameters (spec 00_scope R7) and the configuration the machine has at reset. -/

namespace Sys2Proof.Machine

/-- `DEQUANT`, the default table of 41_pixel_decoders R172. -/
def defaultDequant : Vector Byte 16 :=
  #v[0, 1, 4, 9, 16, 27, 44, 79, 128, 177, 212, 229, 240, 247, 252, 255]

/-- `RGB5_EXPAND(c5) = c5 << 3`, the default of 41_pixel_decoders R175, as a table. -/
def defaultRgb5 : Vector Byte 32 :=
  #v[0, 8, 16, 24, 32, 40, 48, 56, 64, 72, 80, 88, 96, 104, 112, 120,
     128, 136, 144, 152, 160, 168, 176, 184, 192, 200, 208, 216, 224, 232, 240, 248]

/-- The default `FIELD_LAYOUT` of 30_encoding R86 to R96 and R103 (log 11). -/
def defaultFieldLayout : FieldLayout where
  cmA := 0
  cmB := 8
  ev := 18
  nm := 19
  cs := 22
  ta := 0
  tb := 8
  mx := 23
  mode := 0
  polarity := 3
  bf := 0
  bank := 0
  red := 16
  green := 8
  blue := 0
  seedY := 16
  seedU := 8
  seedV := 0
  factor := 0
  backdrop := 0
  gateR := 2
  gateG := 1
  gateB := 0
  hold := 23
  holdFactor := 0
  red5 := 10
  green5 := 5
  blue5 := 0
  highByte := .a

/-- The tentative `CURSOR_LAYOUT` of 30_encoding R95; no machine starts with it (log 13). -/
def defaultCursorLayout : CursorLayout where
  cx := ⟨0, 10⟩
  cy := ⟨12, 10⟩
  cen := 23
  cblk := 15
  con := ⟨12, 3⟩
  coff := ⟨8, 3⟩
  cres := 7
  ccol := 0
  row := 16
  bits := 0

/-- The configuration of the machine at reset: the defaults of 00_scope R7 where it gives one, and constants of
which nothing is known where it says OPEN (log 1). -/
def implementationConfig : Config where
  enc := defaultEncoding
  fields := defaultFieldLayout
  widthQuads := Config.openWidthQuads
  heightPred := Config.openHeightPred
  regionLog2 := 20
  displayRes := Config.openDisplayRes
  intLine := ⟨Config.openIntLine .a, Config.openIntLine .b⟩
  chAWritesB := false
  signalStops := true
  dequant := defaultDequant
  yuv := .standard
  rgb5 := defaultRgb5
  rlOverrun := .clamp
  matteReserved := .log
  keyMask := 0x3F3F3F
  bdFull := 255
  bdHalf := 128
  cursor := Config.openCursorLayout
  blinkUnitPred := Config.openBlinkUnitPred

end Sys2Proof.Machine
end

