-- ==== Sys2Proof/Machine/State.lean ====
section
/-! DEFINITION. The state of the block, all of it plain data (spec 10_state), with the fault records of 60_exceptions and the state after reset. -/

namespace Sys2Proof.Machine

/-! ## Values -/

/-- A pixel: the alpha channel and three colour channels (00_scope R11). -/
structure Px where
  a : Byte
  r : Byte
  g : Byte
  b : Byte
  deriving DecidableEq, Repr

/-- `CLEAR` (00_scope R11). -/
def Px.clear : Px := ⟨0, 0, 0, 0⟩

/-- A line of pixels. -/
abbrev Line := List Px

/-- A buffer of lines, the top line first; a line past the end of the list reads as blank (log 19). -/
abbrev Grid := List Line

/-- Coding methods (10_state R23). -/
inductive CodingMethod where
  | off
  | clut8
  | clut7
  | clut77
  | clut4
  | dyuv
  | rgb555
  deriving DecidableEq, Repr

/-- Image types (10_state R36). -/
inductive ImageType where
  | normal
  | runLength
  | mosaic
  deriving DecidableEq, Repr

/-- Bits-per-pixel classes (10_state R36). -/
inductive BppClass where
  | normal8
  | double4
  | high8
  deriving DecidableEq, Repr

/-- A display-parameter register `DP_p` (10_state R36): the decoded fields (`rep` is the pixel-repeat factor) and
`raw`, the payload masked to its fields. -/
structure DisplayParams where
  itype : ImageType
  rep : Nat
  bpp : BppClass
  raw : Payload
  deriving DecidableEq, Repr

/-- The DYUV carried state of a plane (10_state R39). -/
structure Carry where
  y : Byte
  u : Byte
  v : Byte
  deriving DecidableEq, Repr

/-- The two matte flags of a plane (10_state R38). -/
structure FlagPair where
  f0 : Bool
  f1 : Bool
  deriving DecidableEq, Repr

/-- `mlim[p]`, which is 4 or 8 (10_state R38). -/
inductive MatteLimit where
  | four
  | eight
  deriving DecidableEq, Repr

/-! ## Registers -/

/-- The names of the 24-bit control registers (10_state R22), but for the tables `CURPAT` and `MATTE`. -/
inductive Reg where
  | icm
  | tc
  | po
  | clutBank
  | tcol (p : Plane)
  | mcol (p : Plane)
  | dyuv (p : Plane)
  | curpos
  | curctl
  | backdrop
  | mosaic (p : Plane)
  | icf (p : Plane)
  deriving DecidableEq, Repr

/-- The control registers, 24 bits each (10_state R22 to R33). -/
structure Regs where
  icm : Payload
  tc : Payload
  po : Payload
  clutBank : Payload
  tcol : AB Payload
  mcol : AB Payload
  dyuv : AB Payload
  curpos : Payload
  curctl : Payload
  backdrop : Payload
  mosaic : AB Payload
  icf : AB Payload
  deriving DecidableEq, Repr

/-- A register name of the host's access: a control register or `DP_p` (46_sequencer R296, R297). -/
inductive HostReg where
  | ctl (x : Reg)
  | dp (p : Plane)
  deriving DecidableEq, Repr

/-- The three tables of 46_sequencer R298. -/
inductive Table where
  | clut
  | matte
  | curpat
  deriving DecidableEq, Repr

/-! ## Deviations and faults -/

/-- The deviations of 60_exceptions R317, with what each records. -/
inductive Deviation where
  | unknownOpcode (op : Byte)
  | channelNotPermitted (ch : Channel) (op : Byte)
  | disallowedCombination (mA mB : CodingMethod)
  | reservedMatteOp (p : Plane) (op : BitVec 4)
  deriving DecidableEq, Repr

/-- Who wrote a reserved bits-per-pixel value (60_exceptions R311): a LOAD_DP word of a channel's program at
a byte address, or a host write of `DP_p`. -/
inductive DpSource where
  | program (ch : Channel) (word : Word) (addr : Nat)
  | hostWrite (p : Plane) (value : Word)
  deriving DecidableEq, Repr

/-- The fault records of 60_exceptions R311, each with the details the table says it records. All are safe: the
block itself becomes quiescent (R314). They are held in `State.fault`; the machine goes on, answering `Faulted`, so
no step answers `Outcome.fault` (log 10). -/
inductive Fault where
  /-- 0x01, Fatal: LOAD_DP or a host write of `DP_p` with bits 9:8 = 3 (40 R120, 46 R297). Safe. -/
  | reservedBpp (src : DpSource)
  /-- 0x02, Fatal: a line decode of a Mosaic plane with pixels to decode (41 R163). Safe. -/
  | mosaicImageType (p : Plane) (y : Nat)
  /-- 0x03, Fatal: FinalizeFrame with an enabled double-resolution cursor (45 R276). Safe. -/
  | doubleResCursor (curctl : Payload)
  /-- 0x04, Fatal: a reserved matte opcode executed with `MATTE_RESERVED = fault` (42 R217); the entry is the one
  the plane's pointer is at. Safe. -/
  | reservedMatteOp (p : Plane) (entry : Option (Fin 8)) (k y : Nat)
  /-- 0x11, Contract: a fetch from an address that is no multiple of 4 (40 R111). Safe. -/
  | misalignedProgram (ch : Channel) (pc : Word)
  /-- 0x12, Contract: a line decode with plane B RGB555 and plane A not OFF (41 R166). Safe. -/
  | rgb555WithPlaneA (y : Nat) (mA : CodingMethod)
  /-- 0x13, Contract: a RunLength image type with DYUV or RGB555 (41 R165). Safe. -/
  | runLengthNonClut (p : Plane) (y : Nat)
  /-- 0x14, Contract: a run longer than the rest of the line with `P_RL_OVERRUN = fault` (41 R176, R177). Safe. -/
  | runOverrun (p : Plane) (y x count : Nat)
  /-- 0x15, Contract: AdvanceScanline with `y >= P_H` (46 R292). Safe. -/
  | frameOverrun (y : Nat)
  /-- 0x16, Contract: FinalizeFrame with `y != P_H` (46 R294). Safe. -/
  | frameIncomplete (y : Nat)
  /-- 0x17, Contract: a host table access with an index outside the table (46 R298). Safe. -/
  | indexOutOfRange (t : Table) (i : Nat)
  deriving DecidableEq, Repr

/-- Why a step has no meaning. -/
inductive Refusal where
  /-- Raised by an arm of `exec` whose instruction has no meaning yet, with its mnemonic. Safe. No arm does so now. -/
  | notModelled (mnemonic : String)
  deriving DecidableEq, Repr

/-! ## The host's side -/

/-- The operations of 46_sequencer R290. -/
inductive HostOp where
  | reset
  | runProgram (ch : Channel) (addr : Word) (budget : Nat)
  | advanceScanline (ptrA ptrB : Nat)
  | finalizeFrame
  | readReg (x : HostReg)
  | writeReg (x : HostReg) (v : Word)
  | readClut (i : Nat)
  | writeClut (i : Nat) (v : Word)
  | readMatte (i : Nat)
  | writeMatte (i : Nat) (v : Word)
  | readCurpat (i : Nat)
  | writeCurpat (i : Nat) (v : Word)
  deriving DecidableEq, Repr

/-- What the host can do between two operations: call an operation, change a byte of the raw byte region that it owns
(20_memory R61, R67), or change an interrupt disable input (00_scope R7, R45). -/
inductive HostCall where
  | op (o : HostOp)
  | writeRegion (addr : Nat) (v : Byte)
  | setIntDisable (ch : Channel) (v : Bool)
  deriving DecidableEq, Repr

/-- Why a run ended (40 R110). -/
inductive RunEnd where
  | stop
  | reloadDcp
  | reloadDcpStop
  | reloadVsr
  | reloadVsrStop
  | signal
  | budget
  deriving DecidableEq, Repr

/-- The record a run returns (40 R110). -/
structure RunResult where
  ended : RunEnd
  payload : Payload
  irq : Bool
  pc : Word
  count : Nat
  deriving DecidableEq, Repr

/-- What the block answers or emits (46_sequencer R290, R295, 60_exceptions R313, R320). -/
inductive Output where
  | ran (r : RunResult)
  | advanced (usedA usedB : Nat)
  | finalized (frame : Grid)
  | value (v : Word)
  | done
  | faulted (f : Fault)
  | interrupt (intLine : Nat)
  | frameCompleted (frame : Grid)
  deriving DecidableEq, Repr

/-! ## Operations in progress -/

/-- The locals of RunProgram (10_state R21, 40 R111). -/
structure RunState where
  ch : Channel
  pc : Word
  budget : Nat
  count : Nat
  irq : Bool
  deriving DecidableEq, Repr

/-- The locals of AdvanceScanline (46 R292): the plane whose tracker is to step, the normal-resolution position `k`,
the decoded lines `L_A` and `L_B`, and the bytes consumed from each stream. -/
structure LineState where
  plane : Plane
  k : Nat
  px : AB Line
  usedA : Nat
  usedB : Nat
  deriving DecidableEq, Repr

/-- What the block is doing: nothing; a program run, about to fetch a word or to end; a scanline, about to take the
tracker step of `line.plane` at position `line.k`; a scanline, about to produce the two pixels of position
`line.k`. -/
inductive Phase where
  | idle
  | run
  | matte
  | pixels
  deriving DecidableEq, Repr

/-! ## The state -/

/-- Everything the block holds (10_state R22 to R44), its parameters and inputs (R45), and the model's own record of
the host's calls and of the outputs. -/
structure State where
  /-- The parameters (00_scope R7); no step changes them. -/
  cfg : Config
  /-- The control registers (10_state R22). -/
  regs : Regs
  /-- `DP_A`, `DP_B` (10_state R36). -/
  dp : AB DisplayParams
  /-- The colour table (10_state R37). -/
  clut : Vector Payload 256
  /-- The cursor pattern rows (10_state R34). -/
  curpat : Vector (BitVec 16) 16
  /-- The matte table (10_state R35). -/
  matte : Vector Payload 8
  /-- `mptr[p]`; `none` is END (10_state R38, log 15). -/
  mptr : AB (Option (Fin 8))
  /-- `mlim[p]` (10_state R38). -/
  mlim : AB MatteLimit
  /-- `mflag[p][0]`, `mflag[p][1]` (10_state R38). -/
  mflag : AB FlagPair
  /-- The DYUV carry of each plane as the last DYUV line left it (10_state R39, log 20). -/
  carry : AB Carry
  /-- `PLANE_A`, `PLANE_B` (10_state R40). -/
  planes : AB Grid
  /-- `SCREEN` (10_state R40). -/
  screen : Grid
  /-- `BDSTRIP` (10_state R40). -/
  bdstrip : List Px
  /-- The line counter (10_state R41). -/
  y : Nat
  /-- Whether the cursor is in its ON phase (10_state R42). -/
  cvis : Bool
  /-- Finalised frames spent in the cursor's phase (10_state R42). -/
  ccount : Nat
  /-- The fault record (10_state R43). -/
  fault : Option Fault
  /-- The diagnostic log, oldest first (10_state R44). -/
  log : List Deviation
  /-- The locals of RunProgram. -/
  run : RunState
  /-- The locals of AdvanceScanline. -/
  line : LineState
  /-- What the block is doing. -/
  phase : Phase
  /-- `P_INT_DISABLE[ch]`, host inputs (00_scope R7, log 4). -/
  intDisable : AB Bool
  /-- The raw byte region as (address, byte) pairs in canonical form (20_memory R60, log 8). -/
  region : List Host.Cell
  /-- The host's pending calls, the next one first (log 6). -/
  calls : List HostCall
  /-- Results and output events, oldest first (log 7). -/
  outputs : List Output
  deriving DecidableEq, Repr

/-- The registers of the POWER_ON instance of 95_test_vectors section 0: every one 0 (log 2). -/
def Regs.zero : Regs where
  icm := 0
  tc := 0
  po := 0
  clutBank := 0
  tcol := ⟨0, 0⟩
  mcol := ⟨0, 0⟩
  dyuv := ⟨0, 0⟩
  curpos := 0
  curctl := 0
  backdrop := 0
  mosaic := ⟨0, 0⟩
  icf := ⟨0, 0⟩

/-- The display parameters that payload 0 decodes to (log 2). -/
def DisplayParams.zero : DisplayParams := ⟨.normal, 2, .normal8, 0⟩

/-- The instance of `POWER_ON` (70 R347) the model starts from: no fault, an empty log, and every other piece of
state 0, as in 95_test_vectors section 0. DESIGN CHOICE, log 2, log 3. -/
def State.powerOn : State where
  cfg := implementationConfig
  regs := Regs.zero
  dp := ⟨DisplayParams.zero, DisplayParams.zero⟩
  clut := Vector.replicate 256 0
  curpat := Vector.replicate 16 0
  matte := Vector.replicate 8 0
  mptr := ⟨none, none⟩
  mlim := ⟨.eight, .eight⟩
  mflag := ⟨⟨false, false⟩, ⟨false, false⟩⟩
  carry := ⟨⟨0, 0, 0⟩, ⟨0, 0, 0⟩⟩
  planes := ⟨[], []⟩
  screen := []
  bdstrip := []
  y := 0
  cvis := false
  ccount := 0
  fault := none
  log := []
  run := ⟨.a, 0, 0, 0, false⟩
  line := ⟨.a, 0, ⟨[], []⟩, 0, 0⟩
  phase := .idle
  intDisable := ⟨Config.openIntDisable .a, Config.openIntDisable .b⟩
  region := []
  calls := []
  outputs := []

/-- The machine right after the first `Reset()` (70 R340, R347) of the `POWER_ON` instance: both coding-method codes
and the cursor enable are 0, `y` is 0, the blink state is ON with count 0, and everything else is as powered on. -/
def State.reset : State := { State.powerOn with cvis := true }

end Sys2Proof.Machine
end

