-- ==== Sys2Proof/Machine/Buffers.lean ====
section
/-! DEFINITION. The pixel buffers PLANE_A, PLANE_B, SCREEN and BDSTRIP (spec 10_state R40): reads and writes by line and column. -/

namespace Sys2Proof.Machine

/-- Entry `i` of a list whose entries past the end read as `blank`. -/
def padGet {α : Type} (blank : α) (l : List α) (i : Nat) : α := (l[i]?).getD blank

/-- The list with entry `i` set, lengthened with `blank` entries up to `i` where it is shorter. -/
def padSet {α : Type} (blank : α) : List α → Nat → α → List α
  | [], 0, v => [v]
  | [], i + 1, v => blank :: padSet blank [] i v
  | _ :: l, 0, v => v :: l
  | x :: l, i + 1, v => x :: padSet blank l i v

/-- A line of `w` `CLEAR` pixels. -/
def blankLine (w : Nat) : Line := List.replicate w Px.clear

/-- Line `y` of a buffer of width `w`. -/
def Grid.lineAt (w : Nat) (g : Grid) (y : Nat) : Line := padGet (blankLine w) g y

/-- Pixel `x` of line `y` of a buffer of width `w`. -/
def Grid.pixelAt (w : Nat) (g : Grid) (y x : Nat) : Px := padGet Px.clear (Grid.lineAt w g y) x

/-- The buffer with pixel `x` of line `y` written; a column outside the line writes nothing. -/
def Grid.write (w : Nat) (g : Grid) (y x : Nat) (px : Px) : Grid :=
  padSet (blankLine w) g y ((Grid.lineAt w g y).set x px)

/-- The `h` lines of a buffer (10_state R40), as they are handed out. -/
def Grid.frame (w h : Nat) (g : Grid) : Grid := (List.range h).map (Grid.lineAt w g)

end Sys2Proof.Machine
end

