-- ==== Sys2Proof/Machine/Operands.lean ====
section
/-! DEFINITION. The fields of registers and payloads and what they decode to (spec 30_encoding R86 to R99, 10_state R23, R36). -/

namespace Sys2Proof.Machine

/-! ## Register names -/

/-- `REG.X` (00_scope R12). -/
def Regs.get (r : Regs) : Reg → Payload
  | .icm => r.icm
  | .tc => r.tc
  | .po => r.po
  | .clutBank => r.clutBank
  | .tcol p => r.tcol.get p
  | .mcol p => r.mcol.get p
  | .dyuv p => r.dyuv.get p
  | .curpos => r.curpos
  | .curctl => r.curctl
  | .backdrop => r.backdrop
  | .mosaic p => r.mosaic.get p
  | .icf p => r.icf.get p

/-- `REG.X <- v` (00_scope R12). -/
def Regs.set (r : Regs) (x : Reg) (v : Payload) : Regs :=
  match x with
  | .icm => { r with icm := v }
  | .tc => { r with tc := v }
  | .po => { r with po := v }
  | .clutBank => { r with clutBank := v }
  | .tcol p => { r with tcol := r.tcol.set p v }
  | .mcol p => { r with mcol := r.mcol.set p v }
  | .dyuv p => { r with dyuv := r.dyuv.set p v }
  | .curpos => { r with curpos := v }
  | .curctl => { r with curctl := v }
  | .backdrop => { r with backdrop := v }
  | .mosaic p => { r with mosaic := r.mosaic.set p v }
  | .icf p => { r with icf := r.icf.set p v }

/-! ## ICM (30_encoding R86, 10_state R23) -/

/-- `CM_A`, by default bits 3:0. -/
def icmCmA (l : FieldLayout) (d : Payload) : BitVec 4 := d.extractLsb' l.cmA 4
/-- `CM_B`, by default bits 11:8. -/
def icmCmB (l : FieldLayout) (d : Payload) : BitVec 4 := d.extractLsb' l.cmB 4
/-- `EV`, by default bit 18; no rule reads it (R86). -/
def icmEv (l : FieldLayout) (d : Payload) : Bool := d.getLsbD l.ev
/-- `NM`, by default bit 19: true for two mattes. -/
def icmNm (l : FieldLayout) (d : Payload) : Bool := d.getLsbD l.nm
/-- `CS`, by default bit 22: the high-bank CLUT select of CLUT7+7. -/
def icmCs (l : FieldLayout) (d : Payload) : Bool := d.getLsbD l.cs

/-- `table0`, the coding methods of plane A (10_state R23). -/
def table0 (c : BitVec 4) : CodingMethod :=
  match c.toNat with
  | 1 => .clut8
  | 3 => .clut7
  | 4 => .clut77
  | 5 => .dyuv
  | 0xB => .clut4
  | _ => .off

/-- `table1`, the coding methods of plane B (10_state R23). -/
def table1 (c : BitVec 4) : CodingMethod :=
  match c.toNat with
  | 1 => .rgb555
  | 3 => .clut7
  | 5 => .dyuv
  | 0xB => .clut4
  | _ => .off

/-- `codingMethod(p)` as a function of the value of `ICM` (10_state R23). -/
def icmMethod (l : FieldLayout) (icm : Payload) : Plane → CodingMethod
  | .a => table0 (icmCmA l icm)
  | .b => table1 (icmCmB l icm)

/-- `codingMethod(p)` of the state. -/
def State.codingMethod (s : State) (p : Plane) : CodingMethod := icmMethod s.cfg.fields s.regs.icm p

/-! ## TC, PO, CLUTBANK, ICF, DYUV (30_encoding R87 to R93) -/

/-- The transparency nibble of a plane: `TA`, by default bits 3:0, or `TB`, by default bits 11:8 (R87). -/
def tcNibble (l : FieldLayout) (tc : Payload) : Plane → BitVec 4
  | .a => tc.extractLsb' l.ta 4
  | .b => tc.extractLsb' l.tb 4
/-- `MX`, by default bit 23: true in weighted-mix mode (R87). -/
def tcMix (l : FieldLayout) (tc : Payload) : Bool := tc.getLsbD l.mx
/-- The mode of a transparency nibble, by default `t[2:0]` (R88). -/
def nibbleMode (l : FieldLayout) (t : BitVec 4) : BitVec 3 := t.extractLsb' l.mode 3
/-- The polarity of a transparency nibble, by default `t[3]` (R88). -/
def nibblePolarity (l : FieldLayout) (t : BitVec 4) : Bool := t.getLsbD l.polarity
/-- `BF`, by default bit 0: the plane in front (R89). -/
def poFront (l : FieldLayout) (po : Payload) : Plane := if po.getLsbD l.bf then .b else .a
/-- The other plane (00_scope R12). -/
def otherPlane : Plane → Plane
  | .a => .b
  | .b => .a
/-- `bank`, by default bits 1:0 (R90). -/
def clutBankOf (l : FieldLayout) (d : Payload) : BitVec 2 := d.extractLsb' l.bank 2
/-- The contribution factor, by default bits 5:0 (R93). -/
def icfFactor (l : FieldLayout) (d : Payload) : BitVec 6 := d.extractLsb' l.factor 6
/-- The seed of the DYUV carry: by default Y in 23:16, U in 15:8, V in 7:0 (R92). -/
def dyuvSeed (l : FieldLayout) (d : Payload) : Carry :=
  ⟨d.extractLsb' l.seedY 8, d.extractLsb' l.seedU 8, d.extractLsb' l.seedV 8⟩

/-! ## Colours (30_encoding R91, R94; 00_scope R11) -/

/-- `opaque(rgb24)` of a stored colour: by default red in 23:16, green in 15:8 and blue in 7:0, with alpha 255 (00_scope R11,
R91). -/
def opaquePx (l : FieldLayout) (d : Payload) : Px :=
  ⟨255, d.extractLsb' l.red 8, d.extractLsb' l.green 8, d.extractLsb' l.blue 8⟩
/-- `Px.rgb` (00_scope R11). -/
def Px.rgb (p : Px) : Payload := p.r ++ p.g ++ p.b
/-- The colour of a YRGB code: bit 3 selects the level, and by default bits 2, 1 and 0 gate red, green and blue (R94, 44
R250). -/
def yrgbColour (l : FieldLayout) (full half : Byte) (c : BitVec 4) : Px :=
  let lvl := if c.getLsbD 3 then full else half
  ⟨255, if c.getLsbD l.gateR then lvl else 0, if c.getLsbD l.gateG then lvl else 0, if c.getLsbD l.gateB then lvl else 0⟩
/-- The backdrop's YRGB code, by default bits 3:0 (R94). -/
def backdropCode (l : FieldLayout) (d : Payload) : BitVec 4 := d.extractLsb' l.backdrop 4

/-! ## LOAD_DP (30_encoding R99, 40 R120) -/

/-- `FT`, bits 1:0, as an image type (R99). -/
def dpImageType (d : Payload) : ImageType :=
  match (d.extractLsb' 0 2).toNat with
  | 2 => .runLength
  | 3 => .mosaic
  | _ => .normal
/-- `1 << (1 + PR)` with `PR` in bits 3:2 (R99). -/
def dpRepeat (d : Payload) : Nat := 1 <<< (1 + (d.extractLsb' 2 2).toNat)
/-- `BPP`, bits 9:8, as a class; the value 3 is invalid (R99). -/
def dpBpp (d : Payload) : Option BppClass :=
  match (d.extractLsb' 8 2).toNat with
  | 0 => some .normal8
  | 1 => some .double4
  | 2 => some .high8
  | _ => none
/-- The display parameters a payload decodes to; none when `BPP` is 3 (40 R120). -/
def decodeDp (d : Payload) : Option DisplayParams :=
  match dpBpp d with
  | none => none
  | some c => some ⟨dpImageType d, dpRepeat d, c, d &&& 0x00030F⟩

/-! ## Cursor registers (30_encoding R95, the parameter CURSOR_LAYOUT) -/

/-- The unsigned value of a field at a place that is data. -/
def fieldGet (f : Field) (d : Payload) : Nat := (d.toNat >>> f.lo) % 2 ^ f.width
/-- The value with a field of `n` bits from bit `lo` on cleared. -/
def clearField (lo n : Nat) (d : Payload) : Payload := d &&& ~~~((BitVec.allOnes n).setWidth 24 <<< lo)
/-- `CX`. -/
def State.cursorX (s : State) : Nat := fieldGet s.cfg.cursor.cx s.regs.curpos
/-- `CY`. -/
def State.cursorY (s : State) : Nat := fieldGet s.cfg.cursor.cy s.regs.curpos
/-- `CEN`. -/
def State.cursorEnable (s : State) : Bool := s.regs.curctl.getLsbD s.cfg.cursor.cen
/-- `CRES`. -/
def State.cursorDouble (s : State) : Bool := s.regs.curctl.getLsbD s.cfg.cursor.cres
/-- `CON`. -/
def State.cursorOn (s : State) : Nat := fieldGet s.cfg.cursor.con s.regs.curctl
/-- `COFF`. -/
def State.cursorOff (s : State) : Nat := fieldGet s.cfg.cursor.coff s.regs.curctl
/-- `CCOL`. -/
def State.cursorCode (s : State) : BitVec 4 := s.regs.curctl.extractLsb' s.cfg.cursor.ccol 4
/-- The row a `CURPAT` load writes (R95, 40 R134). -/
def curpatRow (c : CursorLayout) (d : Payload) : BitVec 4 := d.extractLsb' c.row 4
/-- The 16 pattern bits of a `CURPAT` load (R95, 40 R134). -/
def curpatBits (c : CursorLayout) (d : Payload) : BitVec 16 := d.extractLsb' c.bits 16

/-! ## Matte limits and flags (10_state R38) -/

/-- The number a limit stands for. -/
def MatteLimit.val : MatteLimit → Nat
  | .four => 4
  | .eight => 8
/-- `mflag[p][i]`. -/
def FlagPair.get (f : FlagPair) (i : BitVec 1) : Bool := if i = 0#1 then f.f0 else f.f1
/-- `mflag[p][i] <- v`. -/
def FlagPair.set (f : FlagPair) (i : BitVec 1) (v : Bool) : FlagPair :=
  if i = 0#1 then { f with f0 := v } else { f with f1 := v }

end Sys2Proof.Machine
end

