-- ==== Sys2Proof/Machine/Flags.lean ====
section
/-! DEFINITION. What the spec calls flags here: the conditions an instruction or a pixel is judged by. The block has no condition codes (spec 41 R181). -/

namespace Sys2Proof.Machine

/-- Who may load a register (40 R112): both channels, channel A alone, or channel B and, with `P_CH_A_WRITES_B`, A. -/
inductive Rights where
  | both
  | aOnly
  | bOnly
  deriving DecidableEq, Repr

/-- `permitted(ch, c)` for a class with the given rights (40 R112). -/
def permitted (cfg : Config) (r : Rights) (ch : Channel) : Bool :=
  match r, ch with
  | .both, _ => true
  | .aOnly, .a => true
  | .aOnly, .b => false
  | .bOnly, .b => true
  | .bOnly, .a => cfg.chAWritesB

/-- The deviations `CheckCombination(D)` logs, in its order (40 R143). -/
def combinationDeviations (l : FieldLayout) (d : Payload) : List Deviation :=
  let mA := icmMethod l d .a
  let mB := icmMethod l d .b
  (if mB = .rgb555 ∧ mA ≠ .off then [.disallowedCombination mA mB] else []) ++
  (if (mA = .clut8 ∨ mA = .clut77) ∧ ¬(mB = .dyuv ∨ mB = .off) then [.disallowedCombination mA mB] else [])

/-- The colour-key condition (43 R231): the pixel's colour and the transparent colour agree under the mask. -/
def colourKey (l : FieldLayout) (mask tcol : Payload) (px : Px) : Bool :=
  (px.rgb &&& mask) == ((opaquePx l tcol).rgb &&& mask)

/-- The condition `C` of a transparency mode; none for the reserved mode 7 (43 R232). -/
def transparencyCondition (l : FieldLayout) (mask tcol : Payload) (f : FlagPair) (px : Px) (mode : BitVec 3) : Option Bool :=
  match mode.toNat with
  | 0 => some true
  | 1 => some (colourKey l mask tcol px)
  | 2 => some (px.a == 0)
  | 3 => some f.f0
  | 4 => some f.f1
  | 5 => some (f.f0 || colourKey l mask tcol px)
  | 6 => some (f.f1 || colourKey l mask tcol px)
  | _ => none

/-- The class of a fault (60 R311): true for Fatal, false for Contract. -/
def Fault.isFatal : Fault → Bool
  | .reservedBpp _ => true
  | .mosaicImageType _ _ => true
  | .doubleResCursor _ => true
  | .reservedMatteOp _ _ _ _ => true
  | .misalignedProgram _ _ => false
  | .rgb555WithPlaneA _ _ => false
  | .runLengthNonClut _ _ => false
  | .runOverrun _ _ _ _ => false
  | .frameOverrun _ => false
  | .frameIncomplete _ => false
  | .indexOutOfRange _ _ => false

/-- The code of a fault (60 R311). -/
def Fault.code : Fault → Byte
  | .reservedBpp _ => 0x01
  | .mosaicImageType _ _ => 0x02
  | .doubleResCursor _ => 0x03
  | .reservedMatteOp _ _ _ _ => 0x04
  | .misalignedProgram _ _ => 0x11
  | .rgb555WithPlaneA _ _ => 0x12
  | .runLengthNonClut _ _ => 0x13
  | .runOverrun _ _ _ _ => 0x14
  | .frameOverrun _ => 0x15
  | .frameIncomplete _ => 0x16
  | .indexOutOfRange _ _ => 0x17

end Sys2Proof.Machine
end

