-- ==== Sys2Proof/Machine/Memory.lean ====
section
/-! DEFINITION. The raw byte region: a canonical list of (address, byte) pairs, its reads and the host's write (spec 20_memory). -/

namespace Sys2Proof.Machine

/-- What a byte of the region reads as when nothing lists it (log 8; 95_test_vectors section 0: "Memory not listed is 0"). -/
def unlistedByte : Byte := 0

/-- The byte at address `a` of a region. -/
def regionRead : List Host.Cell → Nat → Byte
  | [], _ => unlistedByte
  | (k, v) :: rest, a => if k = a then v else regionRead rest a

/-- The region with the byte at `a` set to `v`, in canonical form: the entry stands in address order, and a byte equal
to what an unlisted address reads as has no entry. -/
def regionWrite : List Host.Cell → Nat → Byte → List Host.Cell
  | [], a, v => if v = unlistedByte then [] else [(a, v)]
  | (k, w) :: rest, a, v =>
    if a < k then (if v = unlistedByte then (k, w) :: rest else (a, v) :: (k, w) :: rest)
    else if a = k then (if v = unlistedByte then rest else (a, v) :: rest)
    else (k, w) :: regionWrite rest a v

/-- The entries of a region from address `lo` on are in canonical form: addresses rise strictly, no entry is equal to
an unlisted byte, and every address is below `size`. -/
def regionWfFrom (size : Nat) : Nat → List Host.Cell → Bool
  | _, [] => true
  | lo, (k, v) :: rest => decide (lo ≤ k) && decide (k < size) && !(v == unlistedByte) && regionWfFrom size (k + 1) rest

/-- `Memory.wf`: the region is in canonical form and within its size. -/
def Memory.wf (size : Nat) (m : List Host.Cell) : Bool := regionWfFrom size 0 m

/-- One byte of the region as the block reads it: every address is reduced modulo `P_REGION_SIZE` (20_memory R62). -/
def State.byteAt (s : State) (addr : Nat) : Byte := regionRead s.region (addr % s.cfg.regionSize)

/-- `MemRead(addr, 2)` (20_memory R62): the byte at `addr` is the most significant. -/
def State.read16 (s : State) (addr : Nat) : BitVec 16 := s.byteAt addr ++ s.byteAt (addr + 1)

/-- `MemRead(addr, 4)` as its four bytes, in address order (20_memory R62, R63). -/
def State.bytes4 (s : State) (addr : Nat) : List Byte :=
  [s.byteAt addr, s.byteAt (addr + 1), s.byteAt (addr + 2), s.byteAt (addr + 3)]

/-- The host's change of one byte of the region (20_memory R61, R67), the address reduced as a read's is (log 9). -/
def State.writeByte (s : State) (addr : Nat) (v : Byte) : State :=
  { s with region := regionWrite s.region (addr % s.cfg.regionSize) v }

/-- The host's change of consecutive bytes. -/
def State.writeBytes (s : State) (addr : Nat) : List Byte → State
  | [] => s
  | v :: vs => (s.writeByte addr v).writeBytes (addr + 1) vs

end Sys2Proof.Machine
end

