-- ==== Sys2Proof/Machine/Ops.lean ====
section
/-! DEFINITION. The named operations on the state that the meanings share: register and table writes, logging, output, raising a fault, ending a run, the tracker's pointer. -/

namespace Sys2Proof.Machine

/-- The three outcomes of a step, over this machine. -/
abbrev Outcome := Host.Outcome State Fault Refusal

/-! ## Output, log and faults -/

/-- `log Deviation(d)` (60_exceptions R316): the entry is appended, nothing else changes. -/
def State.logDev (s : State) (d : Deviation) : State := { s with log := s.log ++ [d] }

/-- Several log entries, in order. -/
def State.logAll (s : State) (ds : List Deviation) : State := { s with log := s.log ++ ds }

/-- A result or an output event (46_sequencer R290, R295; 60_exceptions R320). -/
def State.emit (s : State) (o : Output) : State := { s with outputs := s.outputs ++ [o] }

/-- `raise F` (60_exceptions R313): the first fault is kept, the operation in progress is aborted and answers
`Faulted(fault)`. Nothing written before is rolled back. This is the block's one exceptional entry; there is no
handler, saved register or return from it (R322, R323), so no return operation stands beside it. -/
def State.raise (s : State) (f : Fault) : State :=
  let kept := s.fault.getD f
  { s with fault := some kept, phase := .idle, outputs := s.outputs ++ [.faulted kept] }

/-! ## Registers and tables -/

/-- `REG.X` (00_scope R12). -/
def State.reg (s : State) (x : Reg) : Payload := s.regs.get x

/-- `REG.X <- v` (00_scope R12). -/
def State.setReg (s : State) (x : Reg) (v : Payload) : State := { s with regs := s.regs.set x v }

/-- `CLUT[i]` (00_scope R12). -/
def State.clutAt (s : State) (i : Byte) : Payload := s.clut[i.toNat]'i.isLt

/-- `CLUT[i] <- v` (00_scope R12). -/
def State.setClut (s : State) (i : Byte) (v : Payload) : State := { s with clut := s.clut.set i.toNat v i.isLt }

/-- `MATTE[i]` (10_state R35). -/
def State.matteAt (s : State) (i : Fin 8) : Payload := s.matte[i]

/-- `MATTE[i] <- v` (10_state R35). -/
def State.setMatte (s : State) (i : Fin 8) (v : Payload) : State := { s with matte := s.matte.set i v }

/-- `CURPAT[r]` (10_state R34). -/
def State.curpatAt (s : State) (r : Fin 16) : BitVec 16 := s.curpat[r]

/-- `CURPAT[r] <- v` (10_state R34). -/
def State.setCurpat (s : State) (r : Fin 16) (v : BitVec 16) : State := { s with curpat := s.curpat.set r v }

/-- `DP_p <- v` (10_state R36). -/
def State.setDp (s : State) (p : Plane) (v : DisplayParams) : State := { s with dp := s.dp.set p v }

/-! ## The program run -/

/-- The byte address of the word in execution, `pc - 4` modulo the region size: the run has already advanced
`pc` past it (40 R111, 60 R311, log 18). -/
def State.wordAddr (s : State) : Nat := (s.run.pc.toNat + 4 * s.cfg.regionSize - 4) % s.cfg.regionSize

/-- The return of a run (40 R110, R111): its record is the answer, and the block is idle. -/
def State.endRun (s : State) (e : RunEnd) (d : Payload) : State :=
  { s with
    phase := .idle
    outputs := s.outputs ++ [.ran ⟨e, d, s.run.irq, s.run.pc, s.run.count⟩] }

/-- A load that only some channels may make (40 R112, R142): permitted, it is `eff`; refused, it logs
`ChannelNotPermitted` with the load's opcode byte and does nothing else. -/
def State.guardedLoad (s : State) (r : Rights) (l : RegLoad) (eff : State → State) : State :=
  if permitted s.cfg r s.run.ch then eff s
  else s.logDev (.channelNotPermitted s.run.ch (s.cfg.enc.dcp.code l))

/-- The common effect of the register loads of 40 R122 to R140: `REG.X <- D` under the channel's rights. -/
def State.loadReg (s : State) (r : Rights) (l : RegLoad) (x : Reg) (d : Payload) : State :=
  s.guardedLoad r l (fun t => t.setReg x d)

/-- The field decoding of LOAD_DP for plane `p` (40 R120), shared with the host's write (46 R297): with the reserved
class nothing is written and `ReservedBpp` is raised; else `DP_p` is written and `ok` follows. -/
def State.loadDisplayParams (s : State) (p : Plane) (d : Payload) (src : DpSource) (ok : State → State) : State :=
  match decodeDp d with
  | none => s.raise (.reservedBpp src)
  | some v => ok (s.setDp p v)

/-! ## The matte tracker -/

/-- The matte opcode's factor write (42 R215): `REG.ICF_q <- zext_24(MICF)`. -/
def State.matteSetFactor (s : State) (q : Plane) (micf : BitVec 6) : State :=
  s.setReg (.icf q) (micf.setWidth 24)

/-- The matte opcode's flag write (42 R216), on a flag of the plane whose tracker steps. -/
def State.matteSetFlag (s : State) (mf : BitVec 1) (v : Bool) : State :=
  { s with mflag := s.mflag.set s.line.plane ((s.mflag.get s.line.plane).set mf v) }

/-- The pointer after `i` under limit `lim` (42 R213, R219): the next entry, or END at the limit. Entry 7 has no next
entry (log 15). -/
def nextMatte (lim : MatteLimit) (i : Fin 8) : Option (Fin 8) :=
  if i.val + 1 = lim.val then none
  else if h : i.val + 1 < 8 then some ⟨i.val + 1, h⟩
  else none

/-- `mptr[p] <- mptr[p] + 1` with its limit check, for the plane whose tracker steps (42 R219). -/
def State.matteAdvance (s : State) : State :=
  let p := s.line.plane
  { s with mptr := s.mptr.set p ((s.mptr.get p).bind (nextMatte (s.mlim.get p))) }

/-- A reserved matte opcode (42 R217): with `MATTE_RESERVED = log` a deviation and the advance, with `fault` the fault. -/
def State.matteReservedOp (s : State) (op : BitVec 4) : State :=
  match s.cfg.matteReserved with
  | .log => (s.logDev (.reservedMatteOp s.line.plane op)).matteAdvance
  | .fault => s.raise (.reservedMatteOp s.line.plane (s.mptr.get s.line.plane) s.line.k s.y)

end Sys2Proof.Machine
end

