-- ==== Sys2Proof/Machine/Control.lean ====
section
/-! DEFINITION. The meanings of the control operations (spec 40_dcp_interpreter R113 to R120). -/

namespace Sys2Proof.Machine

/-- STOP (40 R113): the run returns with the payload. -/
def execStop (_x : BitVec 4) (d : Payload) (s : State) : Outcome := .next (s.endRun .stop d)

/-- NOP (40 R114). -/
def execNop (_x : BitVec 4) (_d : Payload) (s : State) : Outcome := .next s

/-- RELOAD_DCP (40 R115): the run returns the next-area payload to the host. -/
def execReloadDcp (_x : BitVec 4) (d : Payload) (s : State) : Outcome := .next (s.endRun .reloadDcp d)

/-- RELOAD_DCP_STOP (40 R116). -/
def execReloadDcpStop (_x : BitVec 4) (d : Payload) (s : State) : Outcome := .next (s.endRun .reloadDcpStop d)

/-- RELOAD_VSR (40 R117): the run returns the read-cursor payload to the host. -/
def execReloadVsr (_x : BitVec 4) (d : Payload) (s : State) : Outcome := .next (s.endRun .reloadVsr d)

/-- RELOAD_VSR_STOP (40 R118). -/
def execReloadVsrStop (_x : BitVec 4) (d : Payload) (s : State) : Outcome := .next (s.endRun .reloadVsrStop d)

/-- SIGNAL (40 R119, 60 R320): `irq` is set, the interrupt sink is called unless the channel's disable input is set, and
the run returns where `P_SIGNAL_STOPS` says so. -/
def execSignal (_x : BitVec 4) (d : Payload) (s : State) : Outcome :=
  let called : List Output :=
    if s.intDisable.get s.run.ch.plane then [] else [.interrupt (s.cfg.intLine.get s.run.ch.plane)]
  let marked := { s with run := { s.run with irq := true }, outputs := s.outputs ++ called }
  .next (if s.cfg.signalStops then marked.endRun .signal d else marked)

/-- LOAD_DP (40 R120): the executing channel's plane takes the decoded fields; the reserved class faults, and the record
holds the channel, the word with its ignored nibble and the word's address (60 R311). -/
def execLoadDp (x : BitVec 4) (d : Payload) (s : State) : Outcome :=
  let word := controlWord ((s.cfg.enc.dcp.controlCode .loadDp).setWidth 4) x d
  .next (s.loadDisplayParams s.run.ch.plane d (.program s.run.ch word s.wordAddr) id)

end Sys2Proof.Machine
end

