-- ==== Sys2Proof/Machine/Loads.lean ====
section
/-! DEFINITION. The meanings of the loads and of the unknown opcodes (spec 40_dcp_interpreter R121 to R143). -/

namespace Sys2Proof.Machine

/-- LOAD_CLUT `n` (40 R121): entry `bank * 64 + n`, on channel A always, on channel B only with bank 2 or 3; otherwise no
effect and no log entry. -/
def execLoadClut (n : BitVec 6) (d : Payload) (s : State) : Outcome :=
  let bank := clutBankOf s.cfg.fields (s.reg .clutBank)
  .next (if s.run.ch = .a ∨ 2 ≤ bank.toNat then s.setClut (bank ++ n) d else s)

/-- LOAD_ICM (40 R122, R143): the register is written, and a disallowed combination is then logged. -/
def execLoadIcm (d : Payload) (s : State) : Outcome :=
  .next (s.guardedLoad .aOnly .icm (fun t => (t.setReg .icm d).logAll (combinationDeviations t.cfg.fields d)))

/-- LOAD_TC (40 R123). -/
def execLoadTc (d : Payload) (s : State) : Outcome := .next (s.loadReg .aOnly .tc .tc d)

/-- LOAD_PO (40 R124). -/
def execLoadPo (d : Payload) (s : State) : Outcome := .next (s.loadReg .aOnly .po .po d)

/-- LOAD_BANK (40 R125). -/
def execLoadBank (d : Payload) (s : State) : Outcome := .next (s.loadReg .both .bank .clutBank d)

/-- LOAD_TCOL_A (40 R126). -/
def execLoadTcolA (d : Payload) (s : State) : Outcome := .next (s.loadReg .aOnly .tcolA (.tcol .a) d)

/-- LOAD_TCOL_B (40 R127). -/
def execLoadTcolB (d : Payload) (s : State) : Outcome := .next (s.loadReg .bOnly .tcolB (.tcol .b) d)

/-- LOAD_MCOL_A (40 R128). -/
def execLoadMcolA (d : Payload) (s : State) : Outcome := .next (s.loadReg .aOnly .mcolA (.mcol .a) d)

/-- LOAD_MCOL_B (40 R129). -/
def execLoadMcolB (d : Payload) (s : State) : Outcome := .next (s.loadReg .bOnly .mcolB (.mcol .b) d)

/-- LOAD_DYUV_A (40 R130). -/
def execLoadDyuvA (d : Payload) (s : State) : Outcome := .next (s.loadReg .aOnly .dyuvA (.dyuv .a) d)

/-- LOAD_DYUV_B (40 R131). -/
def execLoadDyuvB (d : Payload) (s : State) : Outcome := .next (s.loadReg .bOnly .dyuvB (.dyuv .b) d)

/-- LOAD_CURPOS (40 R132). -/
def execLoadCurpos (d : Payload) (s : State) : Outcome := .next (s.loadReg .aOnly .curpos .curpos d)

/-- LOAD_CURCTL (40 R133). -/
def execLoadCurctl (d : Payload) (s : State) : Outcome := .next (s.loadReg .aOnly .curctl .curctl d)

/-- LOAD_CURPAT (40 R134): one pattern row, at the places `CURSOR_LAYOUT` gives. -/
def execLoadCurpat (d : Payload) (s : State) : Outcome :=
  .next (s.guardedLoad .aOnly .curpat
    (fun t => t.setCurpat (curpatRow t.cfg.cursor d).toFin (curpatBits t.cfg.cursor d)))

/-- LOAD_MATTE `i` (40 R135), both channels. -/
def execLoadMatte (i : BitVec 3) (d : Payload) (s : State) : Outcome := .next (s.setMatte i.toFin d)

/-- LOAD_BACKDROP (40 R136). -/
def execLoadBackdrop (d : Payload) (s : State) : Outcome := .next (s.loadReg .aOnly .backdrop .backdrop d)

/-- LOAD_MOSAIC_A (40 R137). -/
def execLoadMosaicA (d : Payload) (s : State) : Outcome := .next (s.loadReg .aOnly .mosaicA (.mosaic .a) d)

/-- LOAD_MOSAIC_B (40 R138). -/
def execLoadMosaicB (d : Payload) (s : State) : Outcome := .next (s.loadReg .bOnly .mosaicB (.mosaic .b) d)

/-- LOAD_ICF_A (40 R139). -/
def execLoadIcfA (d : Payload) (s : State) : Outcome := .next (s.loadReg .aOnly .icfA (.icf .a) d)

/-- LOAD_ICF_B (40 R140). -/
def execLoadIcfB (d : Payload) (s : State) : Outcome := .next (s.loadReg .bOnly .icfB (.icf .b) d)

/-- UNKNOWN, opcode byte 0xC5 (40 R141): a log entry and nothing else. -/
def execUnknownC5 (_d : Payload) (s : State) : Outcome := .next (s.logDev (.unknownOpcode 0xC5))

/-- UNKNOWN, opcode byte 0xC8 (40 R141): a log entry and nothing else. -/
def execUnknownC8 (_d : Payload) (s : State) : Outcome := .next (s.logDev (.unknownOpcode 0xC8))

/-- UNKNOWN, opcode byte 0xCC (40 R141): a log entry and nothing else. -/
def execUnknownCC (_d : Payload) (s : State) : Outcome := .next (s.logDev (.unknownOpcode 0xCC))

/-- UNKNOWN, opcode byte 0xDD (40 R141): a log entry and nothing else. -/
def execUnknownDD (_d : Payload) (s : State) : Outcome := .next (s.logDev (.unknownOpcode 0xDD))

/-- UNKNOWN, opcode byte 0xDE (40 R141): a log entry and nothing else. -/
def execUnknownDE (_d : Payload) (s : State) : Outcome := .next (s.logDev (.unknownOpcode 0xDE))

/-- UNKNOWN, opcode byte 0xDF (40 R141): a log entry and nothing else. -/
def execUnknownDF (_d : Payload) (s : State) : Outcome := .next (s.logDev (.unknownOpcode 0xDF))

/-- UNKNOWN, an opcode byte from 0xE0 to 0xFF (40 R141): a log entry and nothing else. -/
def execUnknownE0 (op : Byte) (_d : Payload) (s : State) : Outcome := .next (s.logDev (.unknownOpcode op))

end Sys2Proof.Machine
end

