-- ==== Sys2Proof/Machine/Matte.lean ====
section
/-! DEFINITION. The meanings of the matte commands (spec 42_matte_tracker R213 to R219), for the plane whose tracker steps. -/

namespace Sys2Proof.Machine

/-- M_END (42 R214): the plane's pointer becomes END; no advance. -/
def execMEnd (_mf : BitVec 1) (_micf : BitVec 6) (_mxp : BitVec 9) (s : State) : Outcome :=
  .next { s with mptr := s.mptr.set s.line.plane none }

/-- M_ICF_A (42 R215): the factor of plane A, whichever plane's queue holds the command, then the advance. -/
def execMIcfA (_mf : BitVec 1) (micf : BitVec 6) (_mxp : BitVec 9) (s : State) : Outcome :=
  .next (s.matteSetFactor .a micf).matteAdvance

/-- M_ICF_B (42 R215). -/
def execMIcfB (_mf : BitVec 1) (micf : BitVec 6) (_mxp : BitVec 9) (s : State) : Outcome :=
  .next (s.matteSetFactor .b micf).matteAdvance

/-- M_CLR (42 R216). -/
def execMClr (mf : BitVec 1) (_micf : BitVec 6) (_mxp : BitVec 9) (s : State) : Outcome :=
  .next (s.matteSetFlag mf false).matteAdvance

/-- M_SET (42 R216). -/
def execMSet (mf : BitVec 1) (_micf : BitVec 6) (_mxp : BitVec 9) (s : State) : Outcome :=
  .next (s.matteSetFlag mf true).matteAdvance

/-- M_ICF_A_CLR (42 R218): the factor write, then the flag write, then the advance. -/
def execMIcfAClr (mf : BitVec 1) (micf : BitVec 6) (_mxp : BitVec 9) (s : State) : Outcome :=
  .next ((s.matteSetFactor .a micf).matteSetFlag mf false).matteAdvance

/-- M_ICF_A_SET (42 R218): the factor write, then the flag write, then the advance. -/
def execMIcfASet (mf : BitVec 1) (micf : BitVec 6) (_mxp : BitVec 9) (s : State) : Outcome :=
  .next ((s.matteSetFactor .a micf).matteSetFlag mf true).matteAdvance

/-- M_ICF_B_CLR (42 R218): the factor write, then the flag write, then the advance. -/
def execMIcfBClr (mf : BitVec 1) (micf : BitVec 6) (_mxp : BitVec 9) (s : State) : Outcome :=
  .next ((s.matteSetFactor .b micf).matteSetFlag mf false).matteAdvance

/-- M_ICF_B_SET (42 R218): the factor write, then the flag write, then the advance. -/
def execMIcfBSet (mf : BitVec 1) (micf : BitVec 6) (_mxp : BitVec 9) (s : State) : Outcome :=
  .next ((s.matteSetFactor .b micf).matteSetFlag mf true).matteAdvance

/-- M_RSVD, matte opcode 0001 (42 R217). -/
def execMRsvd1 (_mf : BitVec 1) (_micf : BitVec 6) (_mxp : BitVec 9) (s : State) : Outcome :=
  .next (s.matteReservedOp 1#4)

/-- M_RSVD, matte opcode 0010 (42 R217). -/
def execMRsvd2 (_mf : BitVec 1) (_micf : BitVec 6) (_mxp : BitVec 9) (s : State) : Outcome :=
  .next (s.matteReservedOp 2#4)

/-- M_RSVD, matte opcode 0011 (42 R217). -/
def execMRsvd3 (_mf : BitVec 1) (_micf : BitVec 6) (_mxp : BitVec 9) (s : State) : Outcome :=
  .next (s.matteReservedOp 3#4)

/-- M_RSVD, matte opcode 0101 (42 R217). -/
def execMRsvd5 (_mf : BitVec 1) (_micf : BitVec 6) (_mxp : BitVec 9) (s : State) : Outcome :=
  .next (s.matteReservedOp 5#4)

/-- M_RSVD, matte opcode 0111 (42 R217). -/
def execMRsvd7 (_mf : BitVec 1) (_micf : BitVec 6) (_mxp : BitVec 9) (s : State) : Outcome :=
  .next (s.matteReservedOp 7#4)

/-- M_RSVD, matte opcode 1010 (42 R217). -/
def execMRsvdA (_mf : BitVec 1) (_micf : BitVec 6) (_mxp : BitVec 9) (s : State) : Outcome :=
  .next (s.matteReservedOp 10#4)

/-- M_RSVD, matte opcode 1011 (42 R217). -/
def execMRsvdB (_mf : BitVec 1) (_micf : BitVec 6) (_mxp : BitVec 9) (s : State) : Outcome :=
  .next (s.matteReservedOp 11#4)

end Sys2Proof.Machine
end

