-- ==== Sys2Proof/Machine/Dispatch.lean ====
section
/-! DEFINITION. The dispatch: one arm per instruction. -/

namespace Sys2Proof.Machine

def exec (i : Instr) (s : State) : Host.Outcome State Fault Refusal :=
  match i with
  | .stop x d => Sys2Proof.Machine.execStop x d s
  | .nop x d => Sys2Proof.Machine.execNop x d s
  | .reloadDcp x d => Sys2Proof.Machine.execReloadDcp x d s
  | .reloadDcpStop x d => Sys2Proof.Machine.execReloadDcpStop x d s
  | .reloadVsr x d => Sys2Proof.Machine.execReloadVsr x d s
  | .reloadVsrStop x d => Sys2Proof.Machine.execReloadVsrStop x d s
  | .signal x d => Sys2Proof.Machine.execSignal x d s
  | .loadDp x d => Sys2Proof.Machine.execLoadDp x d s
  | .loadClut n d => Sys2Proof.Machine.execLoadClut n d s
  | .loadIcm d => Sys2Proof.Machine.execLoadIcm d s
  | .loadTc d => Sys2Proof.Machine.execLoadTc d s
  | .loadPo d => Sys2Proof.Machine.execLoadPo d s
  | .loadBank d => Sys2Proof.Machine.execLoadBank d s
  | .loadTcolA d => Sys2Proof.Machine.execLoadTcolA d s
  | .loadTcolB d => Sys2Proof.Machine.execLoadTcolB d s
  | .loadMcolA d => Sys2Proof.Machine.execLoadMcolA d s
  | .loadMcolB d => Sys2Proof.Machine.execLoadMcolB d s
  | .loadDyuvA d => Sys2Proof.Machine.execLoadDyuvA d s
  | .loadDyuvB d => Sys2Proof.Machine.execLoadDyuvB d s
  | .loadCurpos d => Sys2Proof.Machine.execLoadCurpos d s
  | .loadCurctl d => Sys2Proof.Machine.execLoadCurctl d s
  | .loadCurpat d => Sys2Proof.Machine.execLoadCurpat d s
  | .loadMatte n d => Sys2Proof.Machine.execLoadMatte n d s
  | .loadBackdrop d => Sys2Proof.Machine.execLoadBackdrop d s
  | .loadMosaicA d => Sys2Proof.Machine.execLoadMosaicA d s
  | .loadMosaicB d => Sys2Proof.Machine.execLoadMosaicB d s
  | .loadIcfA d => Sys2Proof.Machine.execLoadIcfA d s
  | .loadIcfB d => Sys2Proof.Machine.execLoadIcfB d s
  | .unknownC5 d => Sys2Proof.Machine.execUnknownC5 d s
  | .unknownC8 d => Sys2Proof.Machine.execUnknownC8 d s
  | .unknownCC d => Sys2Proof.Machine.execUnknownCC d s
  | .unknownDD d => Sys2Proof.Machine.execUnknownDD d s
  | .unknownDE d => Sys2Proof.Machine.execUnknownDE d s
  | .unknownDF d => Sys2Proof.Machine.execUnknownDF d s
  | .unknownE0 op d => Sys2Proof.Machine.execUnknownE0 op d s
  | .mEnd mf micf mxp => Sys2Proof.Machine.execMEnd mf micf mxp s
  | .mRsvd1 mf micf mxp => Sys2Proof.Machine.execMRsvd1 mf micf mxp s
  | .mRsvd2 mf micf mxp => Sys2Proof.Machine.execMRsvd2 mf micf mxp s
  | .mRsvd3 mf micf mxp => Sys2Proof.Machine.execMRsvd3 mf micf mxp s
  | .mIcfA mf micf mxp => Sys2Proof.Machine.execMIcfA mf micf mxp s
  | .mRsvd5 mf micf mxp => Sys2Proof.Machine.execMRsvd5 mf micf mxp s
  | .mIcfB mf micf mxp => Sys2Proof.Machine.execMIcfB mf micf mxp s
  | .mRsvd7 mf micf mxp => Sys2Proof.Machine.execMRsvd7 mf micf mxp s
  | .mClr mf micf mxp => Sys2Proof.Machine.execMClr mf micf mxp s
  | .mSet mf micf mxp => Sys2Proof.Machine.execMSet mf micf mxp s
  | .mRsvdA mf micf mxp => Sys2Proof.Machine.execMRsvdA mf micf mxp s
  | .mRsvdB mf micf mxp => Sys2Proof.Machine.execMRsvdB mf micf mxp s
  | .mIcfAClr mf micf mxp => Sys2Proof.Machine.execMIcfAClr mf micf mxp s
  | .mIcfASet mf micf mxp => Sys2Proof.Machine.execMIcfASet mf micf mxp s
  | .mIcfBClr mf micf mxp => Sys2Proof.Machine.execMIcfBClr mf micf mxp s
  | .mIcfBSet mf micf mxp => Sys2Proof.Machine.execMIcfBSet mf micf mxp s

end Sys2Proof.Machine
end

