-- ==== Sys2Proof/Machine/Arith.lean ====
section
/-! DEFINITION. The integer helpers of 00_scope R10. -/

namespace Sys2Proof.Machine

/-- `clamp8` (00_scope R10): an integer saturated to 0..255, as a byte. -/
def clamp8 (x : Int) : Byte := BitVec.ofNat 8 (min (max x 0) 255).toNat

/-- `tdiv` (00_scope R10): division truncated toward zero. -/
def tdiv (a b : Int) : Int := Int.tdiv a b

end Sys2Proof.Machine
end

