-- ==== Sys2Proof/Machine/Compositor.lean ====
section
/-! DEFINITION. The transparency resolver, the backdrop and the plane compositor (spec 43_transparency, 44_compositor). -/

namespace Sys2Proof.Machine

/-! ## Resolver (43) -/

/-- `ResolvePixel(p, t, px)` (43 R232, R233): transparent when the condition differs from the polarity; mode 7 passes the
pixel on. -/
def resolvePixel (l : FieldLayout) (mask tcol : Payload) (f : FlagPair) (t : BitVec 4) (px : Px) : Px :=
  match transparencyCondition l mask tcol f px (nibbleMode l t) with
  | none => px
  | some c => { px with a := if xor c (nibblePolarity l t) then 0 else 255 }

/-- Whether plane `p` has no decoded pixels: it is OFF, or plane A while plane B is RGB555 (43 R230). -/
def State.planeUndecoded (s : State) (p : Plane) : Bool :=
  s.codingMethod p == .off || (p == .a && s.codingMethod .b == .rgb555)

/-- The resolved pixel of plane `p` at column `x` (43 R230). -/
def State.resolvedPx (s : State) (p : Plane) (x : Nat) : Px :=
  let px := padGet Px.clear (s.line.px.get p) x
  if s.planeUndecoded p then px
  else
    resolvePixel s.cfg.fields s.cfg.keyMask (s.reg (.tcol p)) (s.mflag.get p) (tcNibble s.cfg.fields (s.reg .tc) p) px

/-- `Resolve(p, x)` (43 R230): it writes `PLANE_p[y][x]`. -/
def State.resolve (s : State) (p : Plane) (x : Nat) : State :=
  { s with planes := s.planes.set p (Grid.write s.cfg.width (s.planes.get p) s.y x (s.resolvedPx p x)) }

/-! ## Backdrop and compositor (44) -/

/-- `Backdrop()` (44 R250). -/
def State.backdropPx (s : State) : Px :=
  yrgbColour s.cfg.fields s.cfg.bdFull s.cfg.bdHalf (backdropCode s.cfg.fields (s.reg .backdrop))

/-- `scale(f, v)` before its clamp (44 R251). -/
def scaleInt (f : BitVec 6) (v : Byte) : Int := tdiv ((f.toNat : Int) * ((v.toNat : Int) - 16)) 63 + 16

/-- `scale(f, v)` (44 R251). -/
def scale (f : BitVec 6) (v : Byte) : Byte := clamp8 (scaleInt f v)

/-- `Scale(px, f)` (44 R251). -/
def scalePx (f : BitVec 6) (px : Px) : Px := ⟨255, scale f px.r, scale f px.g, scale f px.b⟩

/-- The factor of plane `p` (44 R252). -/
def State.factor (s : State) (p : Plane) : BitVec 6 := icfFactor s.cfg.fields (s.reg (.icf p))

/-- `PLANE_p[y][x]` of the current line. -/
def State.planePx (s : State) (p : Plane) (x : Nat) : Px := Grid.pixelAt s.cfg.width (s.planes.get p) s.y x

/-- Overlay of a front and a back pixel over a backdrop (44 R253). -/
def overlayPx (backdrop pf pb : Px) (ff fb : BitVec 6) : Px :=
  if pf.a = 0 ∧ pb.a = 0 then backdrop
  else if pf.a = 0 then scalePx fb pb
  else scalePx ff pf

/-- `Overlay(x)` (44 R253). -/
def State.overlay (s : State) (x : Nat) : Px :=
  let front := poFront s.cfg.fields (s.reg .po)
  let back := otherPlane front
  overlayPx (padGet Px.clear s.bdstrip s.y) (s.planePx front x) (s.planePx back x) (s.factor front) (s.factor back)

/-- What a plane's pixel brings to a mix: its scaled channels, or 16 each when it is transparent (44 R254). -/
def mixPart (f : BitVec 6) (px : Px) : Px := if px.a = 0 then ⟨0, 16, 16, 16⟩ else scalePx f px

/-- One channel of a mix: the sum less 16, clamped (44 R254). -/
def mixChannel (x y : Byte) : Byte := clamp8 ((x.toNat : Int) + (y.toNat : Int) - 16)

/-- Mix of the two planes' pixels (44 R254). -/
def mixPx (qA qB : Px) (fA fB : BitVec 6) : Px :=
  let sA := mixPart fA qA
  let sB := mixPart fB qB
  ⟨255, mixChannel sA.r sB.r, mixChannel sA.g sB.g, mixChannel sA.b sB.b⟩

/-- `Mix(x)` (44 R254). -/
def State.mix (s : State) (x : Nat) : Px := mixPx (s.planePx .a x) (s.planePx .b x) (s.factor .a) (s.factor .b)

/-- `Composite(x)` (44 R255): it writes `SCREEN[y][x]`. -/
def State.composite (s : State) (x : Nat) : State :=
  { s with
    screen := Grid.write s.cfg.width s.screen s.y x (if tcMix s.cfg.fields (s.reg .tc) then s.mix x else s.overlay x) }

/-- The pixels of screen column `x` of the current line, in the order of 46 R292. -/
def State.producePixel (s : State) (x : Nat) : State := ((s.resolve .a x).resolve .b x).composite x

end Sys2Proof.Machine
end

