-- ==== Sys2Proof/Machine/Cursor.lean ====
section
/-! DEFINITION. The cursor overlay and its blink timer (spec 45_cursor). -/

namespace Sys2Proof.Machine

/-- `CursorColour()` (45 R271). -/
def State.cursorColour (s : State) : Px := yrgbColour s.cfg.fields s.cfg.bdFull s.cfg.bdHalf s.cursorCode

/-- `CursorColumns(c)` (45 R275). -/
def cursorColumns (res : DisplayRes) (cx c : Nat) : List Nat :=
  match res with
  | .normal => [2 * (cx / 2 + c), 2 * (cx / 2 + c) + 1]
  | .doubleHigh => [cx + c]

/-- Whether cursor pixel `(r, c)` is set (45 R270): bit 15 is the leftmost. -/
def State.cursorBit (s : State) (r c : Nat) : Bool := if h : r < 16 then (s.curpatAt ⟨r, h⟩).getLsbD (15 - c) else false

/-- The screen positions (line, column) the set cursor pixels cover, clipped to the screen, in drawing order (45 R274). -/
def State.cursorCells (s : State) : List (Nat × Nat) :=
  (List.range 16).flatMap fun r =>
    (List.range 16).flatMap fun c =>
      if s.cursorBit r c then
        ((cursorColumns s.cfg.displayRes s.cursorX c).map fun xx => (s.cursorY + r, xx)).filter fun q =>
          decide (q.1 < s.cfg.height) && decide (q.2 < s.cfg.width)
      else []

/-- Writes one colour at a list of positions. -/
def paint (w : Nat) (col : Px) (g : Grid) : List (Nat × Nat) → Grid
  | [] => g
  | q :: rest => paint w col (Grid.write w g q.1 q.2 col) rest

/-- `DrawCursor()` without its fault check (45 R272, R274): nothing unless the cursor is enabled and in its ON phase. -/
def State.drawCursor (s : State) : State :=
  if s.cursorEnable && s.cvis then { s with screen := paint s.cfg.width s.cursorColour s.screen s.cursorCells } else s

/-- `BlinkTick()` (45 R273). -/
def State.blinkTick (s : State) : State :=
  if s.cursorOff = 0 then { s with cvis := true, ccount := 0 }
  else
    let period := (if s.cvis then s.cursorOn else s.cursorOff) * s.cfg.blinkUnit
    if period ≤ s.ccount + 1 then { s with cvis := !s.cvis, ccount := 0 } else { s with ccount := s.ccount + 1 }

end Sys2Proof.Machine
end

