-- ==== Sys2Proof/Machine/Decoders.lean ====
section
/-! DEFINITION. The pixel line decoders and their consumed-byte counts (spec 41_pixel_decoders). -/

namespace Sys2Proof.Machine

/-! ## Width and duplication (41 R160, R161) -/

/-- `dup(p)` (41 R160). -/
def State.dup (s : State) (p : Plane) : Bool := (s.dp.get p).bpp == .normal8

/-- `w(p)` (41 R160): the number of pixels the decoder produces. -/
def State.decodeWidth (s : State) (p : Plane) : Nat := if s.dup p then s.cfg.width / 2 else s.cfg.width

/-- The line that `put` builds from the decoded pixels 0, 1, ... in order (41 R161): each twice when `dup` holds. -/
def spread (dup : Bool) (px : Line) : Line := if dup then px.flatMap (fun q => [q, q]) else px

/-! ## Indexed colour (41 R167, R168) -/

/-- `clutIndex(p, m, c)` (41 R167): the code masked by the method, offset by 128 for plane B and for plane A's CLUT7+7
with `CS`. The tables of 10_state R23 never give plane B CLUT8 or CLUT7+7, and the decoders are called with CLUT methods
only; what is answered there is log 14. -/
def clutIndex (cs : Bool) (p : Plane) (m : CodingMethod) (c : Byte) : Byte :=
  let code : Byte :=
    match m with
    | .clut7 | .clut77 => c &&& 0x7F
    | .clut4 => c &&& 0x0F
    | .off | .rgb555 | .clut8 | .dyuv => c
  if p = .b ∨ (m = .clut77 ∧ cs = true) then code + 128 else code

/-- `pix(p, m, c)` (41 R168): the entry's colour with alpha 255. -/
def State.pix (s : State) (p : Plane) (m : CodingMethod) (c : Byte) : Px :=
  opaquePx s.cfg.fields (s.clutAt (clutIndex (icmCs s.cfg.fields s.regs.icm) p m c))

/-- The decoded pixels of `ClutBytes(p, ptr)` (41 R169). -/
def State.clutBytes (s : State) (p : Plane) (m : CodingMethod) (ptr : Nat) : Line :=
  (List.range (s.decodeWidth p)).map (fun k => s.pix p m (s.byteAt (ptr + k)))

/-- The two pixels of a CLUT4 byte, the high nibble first (41 R170). -/
def State.clut4Pair (s : State) (p : Plane) (b : Byte) : Line :=
  [s.pix p .clut4 ((b.extractLsb' 4 4).setWidth 8), s.pix p .clut4 ((b.extractLsb' 0 4).setWidth 8)]

/-- The decoded pixels of `Clut4(p, ptr)` (41 R170). -/
def State.clut4 (s : State) (p : Plane) (ptr : Nat) : Line :=
  (List.range (s.decodeWidth p / 2)).flatMap (fun j => s.clut4Pair p (s.byteAt (ptr + j)))

/-! ## DYUV (41 R171 to R174) -/

/-- The default `YUV2RGB` (41 R173). -/
def standardYuv2rgb (y u v : Byte) : Px :=
  let yi : Int := y.toNat
  let du : Int := (u.toNat : Int) - 128
  let dv : Int := (v.toNat : Int) - 128
  ⟨255,
   clamp8 (yi + tdiv (351 * dv) 256),
   clamp8 (yi - tdiv (86 * du) 256 - tdiv (179 * dv) 256),
   clamp8 (yi + tdiv (444 * du) 256)⟩

/-- `YUV2RGB` (41 R173): the default, or a function of which nothing is known; always opaque (log 12). -/
def yuv2rgb (m : YuvMap) (y u v : Byte) : Px :=
  match m with
  | .standard => standardYuv2rgb y u v
  | .other n =>
    let rgb := Config.otherYuv2rgb n y u v
    ⟨255, rgb.1, rgb.2.1, rgb.2.2⟩

/-- `DEQUANT[n]` (41 R172). -/
def dequantOf (t : Vector Byte 16) (n : BitVec 4) : Byte := t[n.toNat]'n.isLt

/-- The chroma average of 41 R174, exact in 9 bits and rounded down (R181). -/
def chromaAverage (x y : Byte) : Byte := BitVec.ofNat 8 ((x.toNat + y.toNat) / 2)

/-- `DyuvWord(W, carry)` (41 R174): the two pixels and the new carry. -/
def dyuvWord (t : Vector Byte 16) (m : YuvMap) (w : BitVec 16) (c : Carry) : Px × Px × Carry :=
  let u2 := c.u + dequantOf t (w.extractLsb' 12 4)
  let y1 := c.y + dequantOf t (w.extractLsb' 8 4)
  let v2 := c.v + dequantOf t (w.extractLsb' 4 4)
  let y2 := y1 + dequantOf t (w.extractLsb' 0 4)
  (yuv2rgb m y1 (chromaAverage c.u u2) (chromaAverage c.v v2), yuv2rgb m y2 u2 v2, ⟨y2, u2, v2⟩)

/-- The pixels of `n` DYUV words from `ptr` on, with the carry they leave (41 R171). -/
def State.dyuvWords (s : State) : Nat → Nat → Carry → Line × Carry
  | 0, _, c => ([], c)
  | n + 1, ptr, c =>
    let r := dyuvWord s.cfg.dequant s.cfg.yuv (s.read16 ptr) c
    let rest := s.dyuvWords n (ptr + 2) r.2.2
    (r.1 :: r.2.1 :: rest.1, rest.2)

/-- `Dyuv(p, ptr)` (41 R171): reseeded from `DYUV_p`, one word per two pixels. -/
def State.dyuvLine (s : State) (p : Plane) (ptr : Nat) : Line × Carry :=
  s.dyuvWords (s.decodeWidth p / 2) ptr (dyuvSeed s.cfg.fields (s.reg (.dyuv p)))

/-! ## RGB555 (41 R175) -/

/-- The pixel of an RGB555 word (30_encoding R103, 41 R175). -/
def rgb555Px (l : FieldLayout) (t : Vector Byte 32) (w : BitVec 16) : Px :=
  let expand (c : BitVec 5) : Byte := t[c.toNat]'c.isLt
  ⟨if w.getLsbD 15 then 255 else 0,
   expand (w.extractLsb' l.red5 5), expand (w.extractLsb' l.green5 5), expand (w.extractLsb' l.blue5 5)⟩

/-- The RGB555 word of a byte of each stream (30_encoding R103, 20_memory R64): by default plane A's is the high one. -/
def rgb555Word (l : FieldLayout) (a b : Byte) : BitVec 16 :=
  match l.highByte with
  | .a => a ++ b
  | .b => b ++ a

/-- The decoded pixels of `Rgb555(ptrA, ptrB)` (41 R175): one byte of each stream a pixel. -/
def State.rgb555 (s : State) (ptrA ptrB : Nat) : Line :=
  (List.range (s.decodeWidth .b)).map
    (fun k => rgb555Px s.cfg.fields s.cfg.rgb5
      (rgb555Word s.cfg.fields (s.byteAt (ptrA + k)) (s.byteAt (ptrB + k))))

/-! ## Run-length (41 R176, R177) -/

/-- The units a run covers when `left` remain (41 R176, R177): a count of 0 fills the rest of the line; a longer run is
clamped, or is the contract violation with `P_RL_OVERRUN = fault`. -/
def State.runUnits (s : State) (p : Plane) (x left count : Nat) : Except Fault Nat :=
  let n := if count = 0 then left else count
  if n ≤ left then .ok n
  else match s.cfg.rlOverrun with
    | .clamp => .ok left
    | .fault => .error (.runOverrun p s.y x n)

/-- The item loop of RL7 and RL3 (41 R176, R177), from pixel `x` and byte offset `i` on: `unit` pixels a unit, `colours b`
the pixels of one unit of control byte `b`. It answers the pixels and the bytes consumed. Every item covers at least one
unit, so `w` is fuel enough (the lemmas on `rlItems` under Laws show it). -/
def State.rlItems (s : State) (p : Plane) (ptr unit : Nat) (colours : Byte → Line) :
    Nat → Nat → Nat → Except Fault (Line × Nat)
  | 0, _, i => .ok ([], i)
  | fuel + 1, x, i =>
    if x < s.decodeWidth p then
      let b := s.byteAt (ptr + i)
      let left := (s.decodeWidth p - x) / unit
      let counted := b.getLsbD 7
      let count := if counted then (s.byteAt (ptr + i + 1)).toNat else 1
      match s.runUnits p x left count with
      | .error f => .error f
      | .ok n =>
        match s.rlItems p ptr unit colours fuel (x + n * unit) (if counted then i + 2 else i + 1) with
        | .error f => .error f
        | .ok rest => .ok ((List.replicate n (colours b)).flatten ++ rest.1, rest.2)
    else .ok ([], i)

/-- `RL7(p, ptr)` (41 R176): one pixel a unit, the code in bits 6:0. -/
def State.rl7 (s : State) (p : Plane) (m : CodingMethod) (ptr : Nat) : Except Fault (Line × Nat) :=
  s.rlItems p ptr 1 (fun b => [s.pix p m ((b.extractLsb' 0 7).setWidth 8)]) (s.decodeWidth p) 0 0

/-- `RL3(p, ptr)` (41 R177): two pixels a unit, the codes in bits 6:4 and 2:0. -/
def State.rl3 (s : State) (p : Plane) (m : CodingMethod) (ptr : Nat) : Except Fault (Line × Nat) :=
  s.rlItems p ptr 2
    (fun b => [s.pix p m ((b.extractLsb' 4 3).setWidth 8), s.pix p m ((b.extractLsb' 0 3).setWidth 8)])
    (s.decodeWidth p) 0 0

/-! ## The dispatch (41 R162) -/

/-- What a line decode returns (41 R162), with the DYUV carry it leaves. -/
structure Decoded where
  px : Line
  usedA : Nat
  usedB : Nat
  carry : Carry
  deriving DecidableEq, Repr

/-- A decoded line of plane `p` whose bytes came from that plane's own stream. -/
def State.decodedFrom (s : State) (p : Plane) (px : Line) (n : Nat) (carry : Carry) : Decoded :=
  match p with
  | .a => ⟨spread (s.dup p) px, n, 0, carry⟩
  | .b => ⟨spread (s.dup p) px, 0, n, carry⟩

/-- The line of a plane without decoded pixels (41 R164, R166): `CLEAR`, no byte consumed. -/
def State.clearDecode (s : State) (p : Plane) : Decoded := ⟨blankLine s.cfg.width, 0, 0, s.carry.get p⟩

/-- The run-length arm of 41 R162: the class Double4 selects RL3, the others RL7. -/
def State.decodeRunLength (s : State) (p : Plane) (m : CodingMethod) (ptr : Nat) : Except Fault Decoded :=
  match (if (s.dp.get p).bpp = .double4 then s.rl3 p m ptr else s.rl7 p m ptr) with
  | .error f => .error f
  | .ok r => .ok (s.decodedFrom p r.1 r.2 (s.carry.get p))

/-- `DecodePlane(p, ptrA, ptrB)` (41 R162), with its checks in the order of that rule (60 R318). -/
def State.decodePlane (s : State) (p : Plane) (ptrA ptrB : Nat) : Except Fault Decoded :=
  let m := s.codingMethod p
  let ptr := match p with | .a => ptrA | .b => ptrB
  if p = .a ∧ s.codingMethod .b = .rgb555 then
    if m ≠ .off then .error (.rgb555WithPlaneA s.y m) else .ok (s.clearDecode p)
  else if m = .off then .ok (s.clearDecode p)
  else if (s.dp.get p).itype = .mosaic then .error (.mosaicImageType p s.y)
  else if (s.dp.get p).itype = .runLength then
    (match m with
    | .dyuv => .error (.runLengthNonClut p s.y)
    | .rgb555 => .error (.runLengthNonClut p s.y)
    | _ => s.decodeRunLength p m ptr)
  else
    match m with
    | .clut4 => .ok (s.decodedFrom p (s.clut4 p ptr) (s.decodeWidth p / 2) (s.carry.get p))
    | .dyuv => .ok (s.decodedFrom p (s.dyuvLine p ptr).1 (s.decodeWidth p) (s.dyuvLine p ptr).2)
    | .rgb555 =>
      .ok ⟨spread (s.dup .b) (s.rgb555 ptrA ptrB), s.decodeWidth .b, s.decodeWidth .b, s.carry.get p⟩
    | _ => .ok (s.decodedFrom p (s.clutBytes p m ptr) (s.decodeWidth p) (s.carry.get p))

end Sys2Proof.Machine
end

