-- ==== Sys2Proof/Machine/Tracker.lean ====
section
/-! DEFINITION. The matte tracker's line start and its order within a position (spec 42_matte_tracker R210, R211). -/

namespace Sys2Proof.Machine

/-- `MatteReset()` (42 R210). -/
def State.matteReset (s : State) : State :=
  let cleared : AB FlagPair := ⟨⟨false, false⟩, ⟨false, false⟩⟩
  if icmNm s.cfg.fields s.regs.icm then
    { s with mflag := cleared, mptr := ⟨some 0, some 4⟩, mlim := ⟨.four, .eight⟩ }
  else if matteFlagIndex s.cfg.enc.matte (s.matteAt 0) = 0#1 then
    { s with mflag := cleared, mptr := ⟨some 0, none⟩, mlim := ⟨.eight, .eight⟩ }
  else
    { s with mflag := cleared, mptr := ⟨none, some 0⟩, mlim := ⟨.eight, .eight⟩ }

/-- The entry the tracker executes at this step (42 R211): the one the plane's pointer is at, once its X position has
been reached. -/
def State.reachedMatte (s : State) : Option Payload :=
  match s.mptr.get s.line.plane with
  | none => none
  | some i => if (matteX s.cfg.enc.matte (s.matteAt i)).toNat ≤ s.line.k then some (s.matteAt i) else none

/-- After a plane's tracker step at a position (42 R211, 46 R292): plane B's follows plane A's, and the position's pixels
follow plane B's. A step that raised a fault has left the line. -/
def State.afterMatte (s : State) : State :=
  if s.fault.isSome then s
  else
    match s.line.plane with
    | .a => { s with line := { s.line with plane := .b }, phase := .matte }
    | .b => { s with phase := .pixels }

end Sys2Proof.Machine
end

