-- ==== Sys2Proof/Machine/Sequencer.lean ====
section
/-! DEFINITION. The host's operations and the parts of a scanline (spec 46_sequencer, 70_reset_and_hazards R340, 40_dcp_interpreter R111). -/

namespace Sys2Proof.Machine

/-! ## Reset (70 R340) -/

/-- `Reset()` on an unfaulted block (70 R340 to R346). -/
def State.doReset (s : State) : State :=
  { s with
    regs := { s.regs with
      icm := clearField s.cfg.fields.cmB 4 (clearField s.cfg.fields.cmA 4 s.regs.icm)
      curctl := clearField s.cfg.cursor.cen 1 s.regs.curctl }
    y := 0
    cvis := true
    ccount := 0 }

/-! ## Runs (40 R110, R111) -/

/-- The start of `RunProgram(ch, addr, budget)` (40 R111). -/
def State.startRun (s : State) (ch : Channel) (addr : Word) (budget : Nat) : State :=
  { s with run := ⟨ch, addr, budget, 0, false⟩, phase := .run }

/-- The word at the run's address (40 R111). -/
def State.fetchBytes (s : State) : List Byte := s.bytes4 s.run.pc.toNat

/-- The same four bytes as a word (20_memory R62, R63). -/
def State.fetchWord (s : State) : Word :=
  let a := s.run.pc.toNat
  wordOfBytes (s.byteAt a) (s.byteAt (a + 1)) (s.byteAt (a + 2)) (s.byteAt (a + 3))

/-- After the fetch (40 R111): `pc` past the word, modulo the region size, and one more word counted. -/
def State.afterFetch (s : State) : State :=
  { s with run := { s.run with
      pc := BitVec.ofNat 32 ((s.run.pc.toNat + 4) % s.cfg.regionSize)
      count := s.run.count + 1 } }

/-! ## One scanline (46 R292) -/

/-- The line after both decodes (46 R292): the tracker is reset, the backdrop stored, and position 0 is next. -/
def State.beginLine (s : State) (dA dB : Decoded) : State :=
  let t := s.matteReset
  { t with
    carry := ⟨dA.carry, dB.carry⟩
    bdstrip := padSet Px.clear s.bdstrip s.y s.backdropPx
    line := ⟨.a, 0, ⟨dA.px, dB.px⟩, dA.usedA + dB.usedA, dA.usedB + dB.usedB⟩
    phase := .matte }

/-- The start of `AdvanceScanline(ptrA, ptrB)` (46 R292): the line check, plane A's decode, plane B's decode. -/
def State.startLine (s : State) (ptrA ptrB : Nat) : State :=
  if s.cfg.height ≤ s.y then s.raise (.frameOverrun s.y)
  else
    match s.decodePlane .a ptrA ptrB with
    | .error f => s.raise f
    | .ok dA =>
      match s.decodePlane .b ptrA ptrB with
      | .error f => s.raise f
      | .ok dB => s.beginLine dA dB

/-- After the pixels of a position (46 R292): the next position, or the end of the line with the counts returned. -/
def State.afterPixels (s : State) : State :=
  if s.line.k + 1 < s.cfg.width / 2 then
    { s with line := { s.line with plane := .a, k := s.line.k + 1 }, phase := .matte }
  else
    { s with
      y := s.y + 1
      phase := .idle
      outputs := s.outputs ++ [.advanced s.line.usedA s.line.usedB] }

/-- The pixels of position `k`, columns `2k` and `2k+1` (46 R292). -/
def State.pixelStep (s : State) : State :=
  ((s.producePixel (2 * s.line.k)).producePixel (2 * s.line.k + 1)).afterPixels

/-! ## Finalising a frame (46 R294) -/

/-- The frame as it is handed out: the `P_H` lines of the screen (46 R294, R295). -/
def State.frame (s : State) : Grid := Grid.frame s.cfg.width s.cfg.height s.screen

/-- `FinalizeFrame()` on an unfaulted block (46 R294, 45 R274, R276). -/
def State.finalize (s : State) : State :=
  if s.y ≠ s.cfg.height then s.raise (.frameIncomplete s.y)
  else if s.cursorEnable && s.cursorDouble then s.raise (.doubleResCursor s.regs.curctl)
  else
    let t := s.drawCursor.blinkTick
    { t with y := 0, outputs := t.outputs ++ [.frameCompleted t.frame, .finalized t.frame] }

/-! ## Host accesses (46 R296 to R298) -/

/-- `ReadReg(X)` (46 R296, R297). -/
def State.hostRead (s : State) : HostReg → Word
  | .ctl x => (s.reg x).setWidth 32
  | .dp p => (s.dp.get p).raw.setWidth 32

/-- `WriteReg(X, v)` (46 R296, R297). -/
def State.hostWrite (s : State) (x : HostReg) (v : Word) : State :=
  match x with
  | .ctl x => (s.setReg x (v.setWidth 24)).emit .done
  | .dp p => s.loadDisplayParams p (v.setWidth 24) (.hostWrite p v) (fun t => t.emit .done)

/-- A table access checks its index first (46 R298). -/
def State.withIndex (s : State) (t : Table) (size i : Nat) (go : i < size → State) : State :=
  if h : i < size then go h else s.raise (.indexOutOfRange t i)

/-! ## Serving the host's calls -/

/-- An operation of 46 R290 on an unfaulted block. -/
def State.serveOp (s : State) : HostOp → State
  | .reset => s.doReset.emit .done
  | .runProgram ch addr budget => s.startRun ch addr budget
  | .advanceScanline ptrA ptrB => s.startLine ptrA ptrB
  | .finalizeFrame => s.finalize
  | .readReg x => s.emit (.value (s.hostRead x))
  | .writeReg x v => s.hostWrite x v
  | .readClut i => s.withIndex .clut 256 i (fun h => s.emit (.value ((s.clutAt ⟨i, h⟩).setWidth 32)))
  | .writeClut i v => s.withIndex .clut 256 i (fun h => (s.setClut ⟨i, h⟩ (v.setWidth 24)).emit .done)
  | .readMatte i => s.withIndex .matte 8 i (fun h => s.emit (.value ((s.matteAt ⟨i, h⟩).setWidth 32)))
  | .writeMatte i v => s.withIndex .matte 8 i (fun h => (s.setMatte ⟨i, h⟩ (v.setWidth 24)).emit .done)
  | .readCurpat i => s.withIndex .curpat 16 i (fun h => s.emit (.value ((s.curpatAt ⟨i, h⟩).setWidth 32)))
  | .writeCurpat i v => s.withIndex .curpat 16 i (fun h => (s.setCurpat ⟨i, h⟩ (v.setWidth 16)).emit .done)

/-- A call of the host, the call itself already taken from the list. A faulted block answers every operation with
`Faulted` and changes nothing else (60 R314); the host's inputs are no operations of the block (log 26). -/
def State.serve (s : State) : HostCall → State
  | .op o =>
    match s.fault with
    | some f => s.emit (.faulted f)
    | none => s.serveOp o
  | .writeRegion addr v => s.writeByte addr v
  | .setIntDisable ch v => { s with intDisable := s.intDisable.set ch.plane v }

/-- An idle block serves the host's next call; with none it keeps its state (60 R330). -/
def State.idleStep (s : State) : State :=
  match s.calls with
  | [] => s
  | c :: rest => State.serve { s with calls := rest } c

end Sys2Proof.Machine
end

