-- ==== Sys2Proof/Machine/Activity.lean ====
section
/-! DEFINITION. The steps of a program run and of the matte tracker: fetching, decoding and executing one instruction, and where a test places its instruction (spec 40_dcp_interpreter R111, 42_matte_tracker R211). -/

namespace Sys2Proof.Machine

/-- One turn of the run loop (40 R111): the budget check, the alignment check (60 R312), the fetch, and the instruction. -/
def State.runStep (s : State) : Outcome :=
  if s.run.budget ≤ s.run.count then .next (s.endRun .budget 0)
  else if s.run.pc.toNat % 4 ≠ 0 then .next (s.raise (.misalignedProgram s.run.ch s.run.pc))
  else exec (decodeDcp s.cfg.enc.dcp s.fetchWord) s.afterFetch

/-- One plane's tracker step at the current position (42 R211): the entry the pointer is at is executed when its X position
has been reached. -/
def State.matteStep (s : State) : Outcome :=
  match s.reachedMatte with
  | none => .next s.afterMatte
  | some c =>
    match exec (decodeMatte s.cfg.enc.matte c) s with
    | .next t => .next t.afterMatte
    | .fault f => .fault f
    | .refused r => .refused r

/-- A state whose next step fetches the DCP word `w`: a run in progress with budget left, at a word-aligned address that
holds it (log 17). -/
def State.placeWord (s : State) (w : Word) : State :=
  let pc : Word := BitVec.ofNat 32 (s.run.pc.toNat / 4 * 4)
  let t := s.writeBytes pc.toNat (bytesOfWord w)
  { t with
    fault := none
    phase := .run
    run := { s.run with pc := pc, budget := s.run.count + 1 } }

/-- A state whose next step executes the matte command `c`: a scanline in progress, plane A's tracker about to step at the
command's own X position with its pointer at entry 0, which holds the command (log 17). -/
def State.placeMatte (s : State) (c : Payload) : State :=
  let t := s.setMatte 0 c
  { t with
    fault := none
    phase := .matte
    mptr := s.mptr.set .a (some 0)
    line := { s.line with plane := .a, k := (matteX s.cfg.enc.matte c).toNat } }

end Sys2Proof.Machine
end

