-- ==== Sys2Proof/Machine/Step.lean ====
section
/-! DEFINITION. One step of the machine, and the state that runs a given instruction next. -/

namespace Sys2Proof.Machine

/-- One step (log 5). An idle block serves one call of the host; a run executes one word; a scanline takes one plane's
tracker step or produces the two pixels of a position. -/
def step (s : State) : Host.Outcome State Fault Refusal :=
  match s.phase with
  | .idle => .next s.idleStep
  | .run => s.runStep
  | .matte => s.matteStep
  | .pixels => .next s.pixelStep

/-- `s` with an instruction of the opcode table placed where the next step fetches: a row of at most 24 bits is a matte
command, a longer one a DCP word (log 17, log 29). -/
def State.withFetchWord (s : State) (nbits w : Nat) : State :=
  if nbits ≤ 24 then s.placeMatte (BitVec.ofNat 24 w) else s.placeWord (BitVec.ofNat 32 w)

end Sys2Proof.Machine
end

