-- ==== Sys2Proof/Safety.lean ====
section
/-! DEFINITION. The terms the claims are stated in: the invariant of the machine, what a step leaves alone, and runs of steps. -/

namespace Sys2Proof.Machine

/-! ## What stays the same -/

/-- Every byte of the raw byte region reads as before. -/
def SameBytes (s t : State) : Prop := ∀ a : Nat, t.byteAt a = s.byteAt a

/-- Every control register but `x` reads as before. -/
def SameRegsBut (x : Reg) (s t : State) : Prop := ∀ z : Reg, z ≠ x → t.reg z = s.reg z

/-- The state with the named fault kept, idle, and answering it (60 R313), where no fault stood before. -/
def Faulted (s t : State) (f : Fault) : Prop :=
  t = { s with fault := some f, phase := .idle, outputs := s.outputs ++ [.faulted f] }

/-- The matte pointer of the stepping plane after a command at entry `i` that is no M_END: the next entry, or END at the
plane's limit; the other plane's pointer is as before (42 R219). -/
def MatteAdvanced (s t : State) (i : Fin 8) : Prop :=
  (t.mptr.get s.line.plane).map Fin.val =
      (if i.val + 1 = (s.mlim.get s.line.plane).val then none else some (i.val + 1)) ∧
    t.mptr.get (otherPlane s.line.plane) = s.mptr.get (otherPlane s.line.plane)

/-- The matte flag `mf` of the stepping plane is `v`; its other flag and the other plane's flags are as before. -/
def MatteFlagSet (s t : State) (mf : BitVec 1) (v : Bool) : Prop :=
  (t.mflag.get s.line.plane).get mf = v ∧
    (∀ g : BitVec 1, g ≠ mf → (t.mflag.get s.line.plane).get g = (s.mflag.get s.line.plane).get g) ∧
    t.mflag.get (otherPlane s.line.plane) = s.mflag.get (otherPlane s.line.plane)

/-! ## The invariant -/

/-- The decoded fields of a display-parameter register are those of its `raw` value (10_state R36). -/
def DisplayParams.Legal (v : DisplayParams) : Prop := decodeDp v.raw = some v

/-- A scanline is in progress. -/
def State.InLine (s : State) : Prop := s.phase = .matte ∨ s.phase = .pixels

/-- Pixel `x` of screen line `l` has been produced since the frame began: its line is complete, or it is the current line
and the column lies before the current position. -/
def State.Produced (s : State) (l x : Nat) : Prop := l < s.y ∨ (l = s.y ∧ s.InLine ∧ x < 2 * s.line.k)

/-- What holds of every reachable state. -/
structure State.Inv (s : State) : Prop where
  /-- The region is in canonical form (20_memory R60). -/
  region : Memory.wf s.cfg.regionSize s.region = true
  /-- The display parameters are decodings (10_state R36). -/
  dp : ∀ p : Plane, (s.dp.get p).Legal
  /-- A matte pointer is below its limit (10_state R38, 42 R219). -/
  pointer : ∀ (p : Plane) (i : Fin 8), s.mptr.get p = some i → i.val < (s.mlim.get p).val
  /-- Every line of every buffer is `P_WD` wide (10_state R40). -/
  width : ∀ l : Line, l ∈ s.screen ∨ l ∈ s.planes.a ∨ l ∈ s.planes.b → l.length = s.cfg.width
  /-- The line counter stays within 0..P_H (10_state R41). -/
  lineCount : s.y ≤ s.cfg.height
  /-- A faulted block is idle (60 R313, R314). -/
  quiet : s.fault ≠ none → s.phase = .idle
  /-- A scanline in progress is one of the frame, at a position of the line, with two decoded lines of full width and an
  opaque backdrop (46 R292, 44 R250). -/
  inLine : s.InLine →
    s.y < s.cfg.height ∧ s.line.k < s.cfg.width / 2 ∧ (∀ p : Plane, (s.line.px.get p).length = s.cfg.width) ∧
      (padGet Px.clear s.bdstrip s.y).a = 255
  /-- The pixels of a position follow plane B's tracker step (42 R211). -/
  pixelsAfterB : s.phase = .pixels → s.line.plane = .b
  /-- Every screen pixel produced in this frame is opaque (44 R255). -/
  screenOpaque : ∀ l x : Nat, x < s.cfg.width → s.Produced l x → (Grid.pixelAt s.cfg.width s.screen l x).a = 255

end Sys2Proof.Machine
end

