-- ==== Sys2Proof/Certificates/Slice0/Obligations.lean ====
section
/-! DEFINITION. The statements for the provers, each formalising rules of the spec. -/

open Sys2Proof Sys2Proof.Machine

/-! ## Encoding -/

/-- A few words of the spec's own examples, written out, decode to the instructions they stand for (40 R113, R121, R134,
R135, R141; 42 R215, R218). -/
def Obligations.SpecExampleWordsDecode : Prop :=
  decodeTableWord 32 0x00000000 = some (.stop 0 0) ∧
  decodeTableWord 32 0x40012340 = some (.reloadVsr 0 0x012340) ∧
  decodeTableWord 32 0x8512AB34 = some (.loadClut 5 0x12AB34) ∧
  decodeTableWord 32 0xC1800808 = some (.loadTc 0x800808) ∧
  decodeTableWord 32 0xCF03F00F = some (.loadCurpat 0x03F00F) ∧
  decodeTableWord 32 0xD0408004 = some (.loadMatte 0 0x408004) ∧
  decodeTableWord 32 0xE0123456 = some (.unknownE0 0xE0 0x123456) ∧
  decodeTableWord 24 0x408004 = some (.mIcfA 0 32 2) ∧
  decodeTableWord 24 0xF1FCC8 = some (.mIcfBSet 1 63 100)

/-- 30_encoding R81 and R82: which instruction the opcode byte selects. A byte below 0x80 selects the control operation that
`DCP_CTRL_MAP` gives bits 6:4, whatever its low nibble; the CLUT and matte ranges carry their offset; another byte selects
the load that `DCP_REG_MAP` gives it, or UNKNOWN. With the default maps these are the operations and loads of the tables of
R82 and R83. -/
def Obligations.DcpOpcodeByteSelectsTheInstruction : Prop :=
  ∀ (m : DcpMaps) (op : Byte) (d : Payload),
    (∀ k : Fin 8, op.toNat / 16 = k.val → decodeDcp m (op ++ d) = (m.ctrl[k]).instr (op.extractLsb' 0 4) d) ∧
    (0x80 ≤ op.toNat → op.toNat ≤ 0xBF → decodeDcp m (op ++ d) = .loadClut (BitVec.ofNat 6 (op.toNat - 0x80)) d) ∧
    (0xD0 ≤ op.toNat → op.toNat ≤ 0xD7 → decodeDcp m (op ++ d) = .loadMatte (BitVec.ofNat 3 (op.toNat - 0xD0)) d) ∧
    (0xC0 ≤ op.toNat → ¬(0xD0 ≤ op.toNat ∧ op.toNat ≤ 0xD7) →
      (∀ l, m.find op = some l → m.code l = op ∧ decodeDcp m (op ++ d) = l.instr d) ∧
      (m.find op = none → (decodeDcp m (op ++ d)).mnemonic = "UNKNOWN")) ∧
    (m = defaultDcpMaps →
      (op.toNat < 0x80 →
        (decodeDcp m (op ++ d)).mnemonic =
          ["STOP", "NOP", "RELOAD_DCP", "RELOAD_DCP_STOP", "RELOAD_VSR", "RELOAD_VSR_STOP", "SIGNAL", "LOAD_DP"].getD
            (op.toNat / 16) "") ∧
      (∀ row ∈ [((0xC0 : Byte), Instr.loadIcm d), (0xC1, .loadTc d), (0xC2, .loadPo d), (0xC3, .loadBank d),
          (0xC4, .loadTcolA d), (0xC6, .loadTcolB d), (0xC7, .loadMcolA d), (0xC9, .loadMcolB d), (0xCA, .loadDyuvA d),
          (0xCB, .loadDyuvB d), (0xCD, .loadCurpos d), (0xCE, .loadCurctl d), (0xCF, .loadCurpat d),
          (0xD8, .loadBackdrop d), (0xD9, .loadMosaicA d), (0xDA, .loadMosaicB d), (0xDB, .loadIcfA d),
          (0xDC, .loadIcfB d)], op = row.1 → decodeDcp m (op ++ d) = row.2) ∧
      (op ∈ [(0xC5 : Byte), 0xC8, 0xCC, 0xDD, 0xDE, 0xDF] ∨ 0xE0 ≤ op.toNat →
        (decodeDcp m (op ++ d)).mnemonic = "UNKNOWN"))

/-- 30_encoding R97 and R98: which command a matte entry holds, and its three fields, with the default `MATTE_LAYOUT`. -/
def Obligations.MatteOpcodeSelectsTheCommand : Prop :=
  ∀ c : Payload,
    (decodeMatte defaultMatteLayout c).mnemonic =
      ["M_END", "M_RSVD", "M_RSVD", "M_RSVD", "M_ICF_A", "M_RSVD", "M_ICF_B", "M_RSVD", "M_CLR", "M_SET", "M_RSVD",
        "M_RSVD", "M_ICF_A_CLR", "M_ICF_A_SET", "M_ICF_B_CLR", "M_ICF_B_SET"].getD (c.toNat / 2 ^ 20) "" ∧
    (matteFlagIndex defaultMatteLayout c).toNat = c.toNat / 2 ^ 16 % 2 ∧
    (matteFactor defaultMatteLayout c).toNat = c.toNat / 2 ^ 10 % 64 ∧
    (matteX defaultMatteLayout c).toNat = c.toNat / 2 % 512

/-- Decoding the bytes of a well-formed instruction gives the instruction back, for every instruction of the table, in the
default encoding. -/
def Obligations.DecodeOfEncodeIsTheInstruction : Prop :=
  ∀ i : Instr, i.wellFormed = true → decode defaultEncoding (encode i) = .ok i

/-- Every DCP word is the encoding of the well-formed instruction it decodes to; a matte entry is, up to the bits that R97 does
not name. That the decoded instruction keeps every bit of a DCP word, the ignored nibble `OP[3:0]` of R85 among them, and
drops the unnamed bits of a matte entry is the model's choice (log 21). -/
def Obligations.EncodeOfDecodeIsTheWord : Prop :=
  (∀ w : Word, (decodeDcp defaultDcpMaps w).wellFormed = true ∧ encode (decodeDcp defaultDcpMaps w) = bytesOfWord w) ∧
  (∀ c : Payload, encode (decodeMatte defaultMatteLayout c) = bytesOfEntry (c &&& 0xF1FFFE))

/-! ## Steps and instructions -/

/-- A run with budget left, at a word-aligned address, executes the instruction its four bytes decode to, after `pc` has
moved past the word modulo the region size and the word has been counted (40 R111). -/
def Obligations.StepRunsTheFetchedInstruction : Prop :=
  ∀ (s : State) (i : Instr), s.phase = .run → s.run.count < s.run.budget → s.run.pc.toNat % 4 = 0 →
    decode s.cfg.enc [s.byteAt s.run.pc.toNat, s.byteAt (s.run.pc.toNat + 1), s.byteAt (s.run.pc.toNat + 2),
      s.byteAt (s.run.pc.toNat + 3)] = .ok i →
    step s = exec i { s with run := { s.run with
      pc := BitVec.ofNat 32 ((s.run.pc.toNat + 4) % s.cfg.regionSize)
      count := s.run.count + 1 } }

/-- A tracker step whose plane's pointer is at an entry that has been reached executes the command the entry decodes to, and
then moves on to plane B's step or to the pixels; where the command faulted the line is left (42 R211, 46 R292). -/
def Obligations.StepRunsTheReachedMatteCommand : Prop :=
  ∀ (s t : State) (j : Fin 8) (i : Instr), s.phase = .matte → s.mptr.get s.line.plane = some j →
    (matteX s.cfg.enc.matte (s.matteAt j)).toNat ≤ s.line.k →
    decode s.cfg.enc (bytesOfEntry (s.matteAt j)) = .ok i → exec i s = .next t →
    (t.fault ≠ none → step s = .next t) ∧
    (t.fault = none → s.line.plane = .a → step s = .next { t with line := { t.line with plane := .b }, phase := .matte }) ∧
    (t.fault = none → s.line.plane = .b → step s = .next { t with phase := .pixels })

/-- A tracker step whose plane's pointer is END, or at an entry whose X position has not been reached, executes nothing
(42 R211). -/
def Obligations.UnreachedMatteCommandWaits : Prop :=
  ∀ s : State, s.phase = .matte → s.fault = none →
    (∀ j : Fin 8, s.mptr.get s.line.plane = some j → s.line.k < (matteX s.cfg.enc.matte (s.matteAt j)).toNat) →
    (s.line.plane = .a → step s = .next { s with line := { s.line with plane := .b } }) ∧
    (s.line.plane = .b → step s = .next { s with phase := .pixels })

/-- 60_exceptions R312: the alignment check stands before each fetch, comes after the budget check, reads nothing, and can
fail only at a run's start, since the address after a word is a multiple of 4 again. -/
def Obligations.MisalignedFetchFaults : Prop :=
  ∀ s : State, s.phase = .run → s.fault = none →
    (s.run.count < s.run.budget → s.run.pc.toNat % 4 ≠ 0 →
      ∃ t, step s = .next t ∧ Faulted s t (.misalignedProgram s.run.ch s.run.pc)) ∧
    (s.run.budget ≤ s.run.count → ∃ t, step s = .next t ∧ t.fault = none) ∧
    (s.run.pc.toNat % 4 = 0 → ((s.run.pc.toNat + 4) % s.cfg.regionSize) % 4 = 0)

/-- `RunProgram(ch, addr, budget)` starts a run of channel `ch` at `pc = addr` with `count = 0` and `irq = false`, whatever the
budget; a run whose budget is used up returns `BUDGET` with payload 0 and the run's `irq`, `pc` and `count`; so a run
called with budget 0 executes nothing and returns with `pc = addr` (40 R110, R111). The division into steps is the
model's choice (log 5). -/
def Obligations.RunStartsAndReturnsWithoutBudget : Prop :=
  (∀ (s : State) (ch : Channel) (addr : Word) (budget : Nat) (rest : List HostCall), s.phase = .idle → s.fault = none →
    s.calls = .op (.runProgram ch addr budget) :: rest →
    step s = .next { s with
      calls := rest
      phase := .run
      run := { ch := ch, pc := addr, budget := budget, count := 0, irq := false } }) ∧
  (∀ s : State, s.phase = .run → s.run.budget ≤ s.run.count →
    step s = .next { s with
      phase := .idle
      outputs := s.outputs ++ [.ran ⟨.budget, 0, s.run.irq, s.run.pc, s.run.count⟩] }) ∧
  (∀ (s : State) (ch : Channel) (addr : Word) (rest : List HostCall), s.phase = .idle → s.fault = none →
    s.calls = .op (.runProgram ch addr 0) :: rest →
    ∃ t u, step s = .next t ∧ step t = .next u ∧
      u = { s with
        calls := rest
        run := ⟨ch, addr, 0, 0, false⟩
        outputs := s.outputs ++ [.ran ⟨.budget, 0, false, addr, 0⟩] })

/-- The area terminators, which the high nibble of the opcode byte selects, end the run and return their payload with the run's
`irq`, `pc` and `count`; nothing else changes (40 R113, R115 to R118). -/
def Obligations.TerminatorsReturnTheRun : Prop :=
  ∀ (s : State) (x : BitVec 4) (d : Payload),
    ∀ row ∈ [(0#4, Instr.stop x d, RunEnd.stop), (2#4, .reloadDcp x d, .reloadDcp),
      (3#4, .reloadDcpStop x d, .reloadDcpStop), (4#4, .reloadVsr x d, .reloadVsr),
      (5#4, .reloadVsrStop x d, .reloadVsrStop)],
      decodeDcp defaultDcpMaps (controlWord row.1 x d) = row.2.1 ∧
      ∃ t, exec row.2.1 s = .next t ∧
        t = { s with
          phase := .idle
          outputs := s.outputs ++ [.ran ⟨row.2.2, d, s.run.irq, s.run.pc, s.run.count⟩] } ∧
        SameBytes s t

/-- SIGNAL sets `irq`, calls the sink once with the channel's line unless the channel's disable input is set, and ends the run
with `irq = true` where `P_SIGNAL_STOPS` holds; without it the run goes on (40 R119, 60 R320). -/
def Obligations.SignalRequestsTheInterrupt : Prop :=
  ∀ (s : State) (x : BitVec 4) (d : Payload),
    decodeDcp defaultDcpMaps (controlWord 6#4 x d) = .signal x d ∧
    ∃ t calls, exec (.signal x d) s = .next t ∧
      calls = (if s.intDisable.get s.run.ch.plane then [] else [Output.interrupt (s.cfg.intLine.get s.run.ch.plane)]) ∧
      (s.cfg.signalStops = true →
        t = { s with
          run := { s.run with irq := true }
          phase := .idle
          outputs := s.outputs ++ calls ++ [.ran ⟨.signal, d, true, s.run.pc, s.run.count⟩] }) ∧
      (s.cfg.signalStops = false →
        t = { s with run := { s.run with irq := true }, outputs := s.outputs ++ calls }) ∧
      SameBytes s t

/-- LOAD_DP with a valid class sets the display parameters of the executing channel's plane and nothing else
(40 R120, 30 R99). -/
def Obligations.LoadDpWritesDisplayParameters : Prop :=
  ∀ (s : State) (x : BitVec 4) (d : Payload), d.toNat / 256 % 4 ≠ 3 →
    decodeDcp defaultDcpMaps (controlWord 7#4 x d) = .loadDp x d ∧
    ∃ t, exec (.loadDp x d) s = .next t ∧
      (t.dp.get s.run.ch.plane).itype =
        (if d.toNat % 4 = 2 then .runLength else if d.toNat % 4 = 3 then .mosaic else .normal) ∧
      (t.dp.get s.run.ch.plane).rep = 2 ^ (1 + d.toNat / 4 % 4) ∧
      (t.dp.get s.run.ch.plane).bpp =
        (if d.toNat / 256 % 4 = 0 then .normal8 else if d.toNat / 256 % 4 = 1 then .double4 else .high8) ∧
      (t.dp.get s.run.ch.plane).raw = d &&& 0x00030F ∧
      t.dp.get (otherPlane s.run.ch.plane) = s.dp.get (otherPlane s.run.ch.plane) ∧
      t = { s with dp := t.dp } ∧ SameBytes s t

/-- LOAD_DP with the reserved class raises `Fatal(ReservedBpp)` and writes nothing (40 R120, 60 R311, R313). What the record
holds is the model's reading of R311 (log 18, log 23): the channel, the word, which with the default `DCP_CTRL_MAP` is the
opcode byte `7x` before the payload, and the address that was fetched, `pc - 4` reduced modulo the region size. -/
def Obligations.LoadDpReservedClassFaults : Prop :=
  ∀ (s : State) (x : BitVec 4) (d : Payload) (addr : Nat), d.toNat / 256 % 4 = 3 → s.fault = none →
    addr < s.cfg.regionSize → s.run.pc.toNat = (addr + 4) % s.cfg.regionSize →
    ∃ t word, exec (.loadDp x d) s = .next t ∧
      Faulted s t (.reservedBpp (.program s.run.ch word addr)) ∧
      word = 0#1 ++ s.cfg.enc.dcp.controlCode .loadDp ++ x ++ d ∧
      (s.cfg.enc.dcp = defaultDcpMaps → word = 7#4 ++ x ++ d)

/-- LOAD_CLUT writes entry `n` of the active bank, which `CLUTBANK` holds (by default in bits 1:0), on channel A, and on
channel B with bank 2 or 3; on channel B with bank 0 or 1 it has no effect and logs nothing (40 R121). -/
def Obligations.LoadClutWritesTheActiveBank : Prop :=
  ∀ (s : State) (n : BitVec 6) (d : Payload) (bank : Nat), (s.reg .clutBank).toNat / 2 ^ s.cfg.fields.bank % 4 = bank →
    decodeDcp defaultDcpMaps (dcpWord (0b10#2 ++ n) d) = .loadClut n d ∧
    (s.run.ch = .a ∨ 2 ≤ bank →
      ∃ t, exec (.loadClut n d) s = .next t ∧
        (∀ e : Byte, t.clutAt e = if e.toNat = bank * 64 + n.toNat then d else s.clutAt e) ∧
        t = { s with clut := t.clut } ∧ SameBytes s t) ∧
    (s.run.ch = .b → bank < 2 → exec (.loadClut n d) s = .next s)

/-- LOAD_ICM on channel A stores the payload and logs a disallowed combination of coding methods without aborting; on channel
B it is refused with a log entry (40 R122, R142, R143). The coding methods are those of the tables of 10_state R23 for the
codes in `CM_A` and `CM_B`, both of the payload and of whatever `ICM` holds. That the codes are read at the places that
`FIELD_LAYOUT` gives those fields, by default bits 3:0 and 11:8, is the model's choice for any other layout (log 11). -/
def Obligations.LoadIcmWritesAndChecksTheCombination : Prop :=
  ∀ (s : State) (d : Payload) (a b : Nat) (mA mB : CodingMethod),
    a = d.toNat / 2 ^ s.cfg.fields.cmA % 16 → b = d.toNat / 2 ^ s.cfg.fields.cmB % 16 →
    mA = (if a = 1 then .clut8 else if a = 3 then .clut7 else if a = 4 then .clut77 else if a = 5 then .dyuv
      else if a = 0xB then .clut4 else .off) →
    mB = (if b = 1 then .rgb555 else if b = 3 then .clut7 else if b = 5 then .dyuv else if b = 0xB then .clut4
      else .off) →
    (s.reg .icm = d → s.codingMethod .a = mA ∧ s.codingMethod .b = mB) ∧
    (s.cfg.fields = defaultFieldLayout → a = d.toNat % 16 ∧ b = d.toNat / 256 % 16) ∧
    decodeDcp defaultDcpMaps (dcpWord 0xC0 d) = .loadIcm d ∧
    (s.run.ch = .a →
      ∃ t, exec (.loadIcm d) s = .next t ∧ t.reg .icm = d ∧ SameRegsBut .icm s t ∧
        t.codingMethod .a = mA ∧ t.codingMethod .b = mB ∧
        t.log = s.log ++ ((if mB = .rgb555 ∧ mA ≠ .off then [Deviation.disallowedCombination mA mB] else []) ++
          (if mA ∈ [CodingMethod.clut8, .clut77] ∧ mB ∉ [CodingMethod.dyuv, .off] then
            [Deviation.disallowedCombination mA mB] else [])) ∧
        t = { s with regs := t.regs, log := t.log } ∧ SameBytes s t) ∧
    defaultDcpMaps.code .icm = 0xC0 ∧
    (s.run.ch = .b →
      exec (.loadIcm d) s = .next { s with log := s.log ++ [.channelNotPermitted .b (s.cfg.enc.dcp.code .icm)] })

/-- The register loads that only channel A may make: the word of their opcode byte decodes to them; on channel A they store
the payload and change nothing else; on channel B they only log (40 R112, R123 to R139, R142). -/
def Obligations.ChannelARegisterLoads : Prop :=
  ∀ (s : State) (d : Payload),
    ∀ row ∈ [(RegLoad.tc, (0xC1 : Byte), Instr.loadTc d, Reg.tc), (.po, 0xC2, .loadPo d, .po),
      (.tcolA, 0xC4, .loadTcolA d, .tcol .a), (.mcolA, 0xC7, .loadMcolA d, .mcol .a),
      (.dyuvA, 0xCA, .loadDyuvA d, .dyuv .a), (.curpos, 0xCD, .loadCurpos d, .curpos),
      (.curctl, 0xCE, .loadCurctl d, .curctl), (.backdrop, 0xD8, .loadBackdrop d, .backdrop),
      (.mosaicA, 0xD9, .loadMosaicA d, .mosaic .a), (.icfA, 0xDB, .loadIcfA d, .icf .a)],
      decodeDcp defaultDcpMaps (row.2.1 ++ d) = row.2.2.1 ∧ defaultDcpMaps.code row.1 = row.2.1 ∧
      (s.run.ch = .a →
        ∃ t, exec row.2.2.1 s = .next t ∧ t.reg row.2.2.2 = d ∧ SameRegsBut row.2.2.2 s t ∧
          t = { s with regs := t.regs } ∧ SameBytes s t) ∧
      (s.run.ch = .b →
        exec row.2.2.1 s = .next { s with log := s.log ++ [.channelNotPermitted .b (s.cfg.enc.dcp.code row.1)] })

/-- The loads of plane B's registers: on channel B, and on channel A with `P_CH_A_WRITES_B`, they store the payload and change
nothing else; on channel A without it they only log (40 R112, R127 to R140, R142). -/
def Obligations.ChannelBRegisterLoads : Prop :=
  ∀ (s : State) (d : Payload),
    ∀ row ∈ [(RegLoad.tcolB, (0xC6 : Byte), Instr.loadTcolB d, Reg.tcol .b), (.mcolB, 0xC9, .loadMcolB d, .mcol .b),
      (.dyuvB, 0xCB, .loadDyuvB d, .dyuv .b), (.mosaicB, 0xDA, .loadMosaicB d, .mosaic .b),
      (.icfB, 0xDC, .loadIcfB d, .icf .b)],
      decodeDcp defaultDcpMaps (row.2.1 ++ d) = row.2.2.1 ∧ defaultDcpMaps.code row.1 = row.2.1 ∧
      (s.run.ch = .b ∨ s.cfg.chAWritesB = true →
        ∃ t, exec row.2.2.1 s = .next t ∧ t.reg row.2.2.2 = d ∧ SameRegsBut row.2.2.2 s t ∧
          t = { s with regs := t.regs } ∧ SameBytes s t) ∧
      (s.run.ch = .a → s.cfg.chAWritesB = false →
        exec row.2.2.1 s = .next { s with log := s.log ++ [.channelNotPermitted .a (s.cfg.enc.dcp.code row.1)] })

/-- LOAD_BANK stores the payload in the one bank register, from either channel (40 R125). -/
def Obligations.LoadBankFromEitherChannel : Prop :=
  ∀ (s : State) (d : Payload),
    decodeDcp defaultDcpMaps (dcpWord 0xC3 d) = .loadBank d ∧
    ∃ t, exec (.loadBank d) s = .next t ∧ t.reg .clutBank = d ∧ SameRegsBut .clutBank s t ∧
      t = { s with regs := t.regs } ∧ SameBytes s t

/-- LOAD_CURPAT on channel A writes the row its payload names and leaves the other fifteen; with the layout of 30 R95 the row is
bits 19:16 and the pattern bits 15:0; on channel B it only logs (40 R134, R142). That the row has 4 bits and the pattern 16
in every `CURSOR_LAYOUT` is the model's choice (log 13). -/
def Obligations.LoadCurpatWritesOneRow : Prop :=
  ∀ (s : State) (d : Payload),
    decodeDcp defaultDcpMaps (dcpWord 0xCF d) = .loadCurpat d ∧ defaultDcpMaps.code .curpat = 0xCF ∧
    (s.run.ch = .a →
      ∃ t, exec (.loadCurpat d) s = .next t ∧
        (∀ r : Fin 16, t.curpatAt r =
          if r.val = d.toNat / 2 ^ s.cfg.cursor.row % 16 then BitVec.ofNat 16 (d.toNat / 2 ^ s.cfg.cursor.bits)
          else s.curpatAt r) ∧
        t = { s with curpat := t.curpat } ∧ SameBytes s t) ∧
    (s.run.ch = .b →
      exec (.loadCurpat d) s = .next { s with log := s.log ++ [.channelNotPermitted .b (s.cfg.enc.dcp.code .curpat)] }) ∧
    (s.cfg.cursor = defaultCursorLayout → s.cfg.cursor.row = 16 ∧ s.cfg.cursor.bits = 0)

/-- LOAD_MATTE writes its entry of the matte table, from either channel (40 R135). -/
def Obligations.LoadMatteWritesOneEntry : Prop :=
  ∀ (s : State) (i : BitVec 3) (d : Payload),
    decodeDcp defaultDcpMaps (dcpWord (0b11010#5 ++ i) d) = .loadMatte i d ∧
    ∃ t, exec (.loadMatte i d) s = .next t ∧
      (∀ j : Fin 8, t.matteAt j = if j.val = i.toNat then d else s.matteAt j) ∧
      t = { s with matte := t.matte } ∧ SameBytes s t

/-- NOP has no effect (40 R114); an unknown opcode is logged with its byte and has no other effect (40 R141). -/
def Obligations.NopAndUnknownOpcodesHaveNoEffect : Prop :=
  ∀ (s : State) (x : BitVec 4) (op : Byte) (d : Payload),
    decodeDcp defaultDcpMaps (controlWord 1#4 x d) = .nop x d ∧
    exec (.nop x d) s = .next s ∧
    (∀ row ∈ [((0xC5 : Byte), Instr.unknownC5 d), (0xC8, .unknownC8 d), (0xCC, .unknownCC d), (0xDD, .unknownDD d),
      (0xDE, .unknownDE d), (0xDF, .unknownDF d)],
      decodeDcp defaultDcpMaps (dcpWord row.1 d) = row.2 ∧
      exec row.2 s = .next { s with log := s.log ++ [.unknownOpcode row.1] }) ∧
    (0xE0 ≤ op.toNat → decodeDcp defaultDcpMaps (dcpWord op d) = .unknownE0 op d) ∧
    exec (.unknownE0 op d) s = .next { s with log := s.log ++ [.unknownOpcode op] }

/-! ## Matte commands -/

/-- M_END disables the plane's pointer and changes nothing else (42 R214). -/
def Obligations.MatteEndStopsThePlane : Prop :=
  ∀ (s : State) (mf : BitVec 1) (micf : BitVec 6) (mxp : BitVec 9),
    decodeMatte defaultMatteLayout (matteEntry 0#4 mf micf mxp) = .mEnd mf micf mxp ∧
    ∃ t, exec (.mEnd mf micf mxp) s = .next t ∧ t.mptr.get s.line.plane = none ∧
      t.mptr.get (otherPlane s.line.plane) = s.mptr.get (otherPlane s.line.plane) ∧
      t = { s with mptr := t.mptr } ∧ SameBytes s t

/-- M_ICF_A and M_ICF_B write the factor, zero-extended to 24 bits, to the register they name, whichever plane's queue holds
them, and advance the pointer (42 R215, R219). -/
def Obligations.MatteFactorCommands : Prop :=
  ∀ (s : State) (mf : BitVec 1) (micf : BitVec 6) (mxp : BitVec 9) (i : Fin 8),
    s.mptr.get s.line.plane = some i → i.val < (s.mlim.get s.line.plane).val →
    ∀ row ∈ [(4#4, Instr.mIcfA mf micf mxp, Plane.a), (6#4, .mIcfB mf micf mxp, .b)],
      decodeMatte defaultMatteLayout (matteEntry row.1 mf micf mxp) = row.2.1 ∧
      ∃ t, exec row.2.1 s = .next t ∧ (t.reg (.icf row.2.2)).toNat = micf.toNat ∧
        SameRegsBut (.icf row.2.2) s t ∧ MatteAdvanced s t i ∧ t = { s with regs := t.regs, mptr := t.mptr } ∧ SameBytes s t

/-- M_CLR and M_SET write the named flag of the plane whose queue holds them and advance the pointer (42 R216, R219). -/
def Obligations.MatteFlagCommands : Prop :=
  ∀ (s : State) (mf : BitVec 1) (micf : BitVec 6) (mxp : BitVec 9) (i : Fin 8),
    s.mptr.get s.line.plane = some i → i.val < (s.mlim.get s.line.plane).val →
    ∀ row ∈ [(8#4, Instr.mClr mf micf mxp, false), (9#4, .mSet mf micf mxp, true)],
      decodeMatte defaultMatteLayout (matteEntry row.1 mf micf mxp) = row.2.1 ∧
      ∃ t, exec row.2.1 s = .next t ∧ MatteFlagSet s t mf row.2.2 ∧ MatteAdvanced s t i ∧
        t = { s with mflag := t.mflag, mptr := t.mptr } ∧ SameBytes s t

/-- The combined commands write the factor and the flag in the same step and advance the pointer (42 R218, R219). -/
def Obligations.MatteCombinedCommands : Prop :=
  ∀ (s : State) (mf : BitVec 1) (micf : BitVec 6) (mxp : BitVec 9) (i : Fin 8),
    s.mptr.get s.line.plane = some i → i.val < (s.mlim.get s.line.plane).val →
    ∀ row ∈ [(12#4, Instr.mIcfAClr mf micf mxp, Plane.a, false), (13#4, .mIcfASet mf micf mxp, .a, true),
      (14#4, .mIcfBClr mf micf mxp, .b, false), (15#4, .mIcfBSet mf micf mxp, .b, true)],
      decodeMatte defaultMatteLayout (matteEntry row.1 mf micf mxp) = row.2.1 ∧
      ∃ t, exec row.2.1 s = .next t ∧ (t.reg (.icf row.2.2.1)).toNat = micf.toNat ∧
        SameRegsBut (.icf row.2.2.1) s t ∧ MatteFlagSet s t mf row.2.2.2 ∧ MatteAdvanced s t i ∧
        t = { s with regs := t.regs, mflag := t.mflag, mptr := t.mptr } ∧ SameBytes s t

/-- A reserved matte opcode is logged and skipped with `MATTE_RESERVED = log`, and raises `Fatal(ReservedMatteOp)` with
`fault` (42 R217). That the entry in the fault's record is the one the pointer is at is the model's reading of 60_exceptions
R311 (log 23). -/
def Obligations.ReservedMatteCommands : Prop :=
  ∀ (s : State) (mf : BitVec 1) (micf : BitVec 6) (mxp : BitVec 9) (i : Fin 8),
    s.mptr.get s.line.plane = some i → i.val < (s.mlim.get s.line.plane).val →
    ∀ row ∈ [(Instr.mRsvd1 mf micf mxp, 1#4), (.mRsvd2 mf micf mxp, 2#4), (.mRsvd3 mf micf mxp, 3#4),
      (.mRsvd5 mf micf mxp, 5#4), (.mRsvd7 mf micf mxp, 7#4), (.mRsvdA mf micf mxp, 10#4), (.mRsvdB mf micf mxp, 11#4)],
      decodeMatte defaultMatteLayout (matteEntry row.2 mf micf mxp) = row.1 ∧
      (s.cfg.matteReserved = .log →
        ∃ t, exec row.1 s = .next t ∧ t.log = s.log ++ [.reservedMatteOp s.line.plane row.2] ∧ MatteAdvanced s t i ∧
          t = { s with log := t.log, mptr := t.mptr } ∧ SameBytes s t) ∧
      (s.cfg.matteReserved = .fault → s.fault = none →
        ∃ t, exec row.1 s = .next t ∧ Faulted s t (.reservedMatteOp s.line.plane (some i) s.line.k s.y))

/-! ## Host operations -/

/-- `Reset()` of an unfaulted block clears the two coding-method codes and the cursor enable, so that both planes are OFF,
starts the frame at line 0 with the cursor in its ON phase, and changes nothing else (70 R340 to R346). R340 and R341 write
out bits 3:0 and 11:8 of `ICM`, which are the fields `CM_A` and `CM_B` of the default layout; that with another
`FIELD_LAYOUT` those fields are cleared where it places them is the model's choice (log 11). -/
def Obligations.ResetClearsWhatTheSpecNames : Prop :=
  ∀ (s : State) (rest : List HostCall), s.phase = .idle → s.fault = none → s.calls = .op .reset :: rest →
    ∃ t, step s = .next t ∧
      (∀ i : Nat, i < 24 → (t.reg .icm).getLsbD i =
        if (s.cfg.fields.cmA ≤ i ∧ i < s.cfg.fields.cmA + 4) ∨ (s.cfg.fields.cmB ≤ i ∧ i < s.cfg.fields.cmB + 4) then false
        else (s.reg .icm).getLsbD i) ∧
      (s.cfg.fields = defaultFieldLayout → s.cfg.fields.cmA = 0 ∧ s.cfg.fields.cmB = 8) ∧
      (∀ p : Plane, t.codingMethod p = .off) ∧
      (∀ i : Nat, i < 24 → (t.reg .curctl).getLsbD i =
        if i = s.cfg.cursor.cen then false else (s.reg .curctl).getLsbD i) ∧
      (∀ z : Reg, z ≠ .icm → z ≠ .curctl → t.reg z = s.reg z) ∧
      t = { s with
        regs := t.regs
        y := 0
        cvis := true
        ccount := 0
        calls := rest
        outputs := s.outputs ++ [.done] } ∧
      SameBytes s t

/-- The model's reset state is what `Reset()` makes of its POWER_ON instance, but for the answer of the operation; that
instance is the model's choice (log 2, log 3), of which the spec fixes that there is no fault and that the log is empty (70
R347). Every parameter for which 00_scope R7 gives a default has it (log 1, log 11, log 12). -/
def Obligations.ResetStateIsResetOfPowerOn : Prop :=
  State.powerOn.doReset = State.reset ∧ State.reset.fault = none ∧ State.reset.log = [] ∧ State.reset.y = 0 ∧
    State.reset.cvis = true ∧ State.reset.ccount = 0 ∧ (∀ p : Plane, State.reset.codingMethod p = .off) ∧
    (State.reset.reg .curctl).getLsbD State.reset.cfg.cursor.cen = false ∧
    State.reset.cfg.regionSize = 2 ^ 20 ∧ State.reset.cfg.enc = defaultEncoding ∧ State.reset.cfg.yuv = .standard ∧
    State.reset.cfg.dequant = #v[0, 1, 4, 9, 16, 27, 44, 79, 128, 177, 212, 229, 240, 247, 252, 255] ∧
    (∀ c : BitVec 5, State.reset.cfg.rgb5[c.toNat]'c.isLt = c.setWidth 8 <<< 3) ∧
    State.reset.cfg.chAWritesB = false ∧ State.reset.cfg.signalStops = true ∧ State.reset.cfg.rlOverrun = .clamp ∧
    State.reset.cfg.matteReserved = .log ∧ State.reset.cfg.keyMask = 0x3F3F3F ∧ State.reset.cfg.bdFull = 255 ∧
    State.reset.cfg.bdHalf = 128 ∧
    State.reset.cfg.fields = {
      cmA := 0, cmB := 8, ev := 18, nm := 19, cs := 22, ta := 0, tb := 8, mx := 23, mode := 0, polarity := 3, bf := 0
      bank := 0, red := 16, green := 8, blue := 0, seedY := 16, seedU := 8, seedV := 0, factor := 0, backdrop := 0
      gateR := 2, gateG := 1, gateB := 0, hold := 23, holdFactor := 0, red5 := 10, green5 := 5, blue5 := 0
      highByte := .a }

/-- The reset state has the invariant of the machine. The display parameters, the tracker's pointers and the buffers that make
it so have the values the model chose (log 2, log 3), since the spec leaves them arbitrary after reset. -/
def Obligations.ResetStateHasTheInvariant : Prop :=
  State.reset.Inv

/-- The start of a scanline (46 R292, 42 R210, 44 R250): both lines are decoded, the matte flags are cleared, the pointers and
limits are those of the matte mode, the backdrop of the line is stored, and the tracker is at position 0. -/
def Obligations.AdvanceScanlineStartsTheLine : Prop :=
  ∀ (s : State) (ptrA ptrB : Nat) (rest : List HostCall) (dA dB : Decoded), s.phase = .idle → s.fault = none →
    s.calls = .op (.advanceScanline ptrA ptrB) :: rest → s.y < s.cfg.height →
    s.decodePlane .a ptrA ptrB = .ok dA → s.decodePlane .b ptrA ptrB = .ok dB →
    ∃ t, step s = .next t ∧
      t.line = ⟨.a, 0, ⟨dA.px, dB.px⟩, dA.usedA + dB.usedA, dA.usedB + dB.usedB⟩ ∧ t.phase = .matte ∧
      (∀ p : Plane, t.mflag.get p = ⟨false, false⟩) ∧
      ((s.reg .icm).getLsbD s.cfg.fields.nm = true →
        t.mptr = ⟨some 0, some 4⟩ ∧ t.mlim = ⟨.four, .eight⟩) ∧
      ((s.reg .icm).getLsbD s.cfg.fields.nm = false → (s.matteAt 0).getLsbD s.cfg.enc.matte.mf = false →
        t.mptr = ⟨some 0, none⟩ ∧ t.mlim = ⟨.eight, .eight⟩) ∧
      ((s.reg .icm).getLsbD s.cfg.fields.nm = false → (s.matteAt 0).getLsbD s.cfg.enc.matte.mf = true →
        t.mptr = ⟨none, some 0⟩ ∧ t.mlim = ⟨.eight, .eight⟩) ∧
      (∀ l : Nat, padGet Px.clear t.bdstrip l = if l = s.y then s.backdropPx else padGet Px.clear s.bdstrip l) ∧
      t = { s with
        mflag := t.mflag
        mptr := t.mptr
        mlim := t.mlim
        carry := ⟨dA.carry, dB.carry⟩
        bdstrip := t.bdstrip
        line := t.line
        phase := .matte
        calls := rest }

/-- The faults of AdvanceScanline and their order (46 R292, 41 R163, R165, R166, 60 R318): the line check, then plane A's
decode, then plane B's, with the plane and method checks that stand first in each. -/
def Obligations.AdvanceScanlineFaults : Prop :=
  ∀ (s : State) (ptrA ptrB : Nat) (rest : List HostCall), s.phase = .idle → s.fault = none →
    s.calls = .op (.advanceScanline ptrA ptrB) :: rest →
    (s.cfg.height ≤ s.y → ∃ t, step s = .next t ∧ Faulted { s with calls := rest } t (.frameOverrun s.y)) ∧
    (∀ f, s.y < s.cfg.height → s.decodePlane .a ptrA ptrB = .error f →
      ∃ t, step s = .next t ∧ Faulted { s with calls := rest } t f) ∧
    (∀ dA f, s.y < s.cfg.height → s.decodePlane .a ptrA ptrB = .ok dA → s.decodePlane .b ptrA ptrB = .error f →
      ∃ t, step s = .next t ∧ Faulted { s with calls := rest } t f) ∧
    (s.y < s.cfg.height → s.codingMethod .b = .rgb555 → s.codingMethod .a ≠ .off →
      ∃ t, step s = .next t ∧ Faulted { s with calls := rest } t (.rgb555WithPlaneA s.y (s.codingMethod .a))) ∧
    (s.y < s.cfg.height → s.codingMethod .b ≠ .rgb555 → s.codingMethod .a ≠ .off → s.dp.a.itype = .mosaic →
      ∃ t, step s = .next t ∧ Faulted { s with calls := rest } t (.mosaicImageType .a s.y)) ∧
    (s.y < s.cfg.height → s.codingMethod .b ≠ .rgb555 → s.codingMethod .a = .dyuv → s.dp.a.itype = .runLength →
      ∃ t, step s = .next t ∧ Faulted { s with calls := rest } t (.runLengthNonClut .a s.y)) ∧
    (∀ dA, s.y < s.cfg.height → s.decodePlane .a ptrA ptrB = .ok dA → s.codingMethod .b ≠ .off →
      s.dp.b.itype = .mosaic →
      ∃ t, step s = .next t ∧ Faulted { s with calls := rest } t (.mosaicImageType .b s.y)) ∧
    (∀ dA, s.y < s.cfg.height → s.decodePlane .a ptrA ptrB = .ok dA →
      s.codingMethod .b = .dyuv ∨ s.codingMethod .b = .rgb555 → s.dp.b.itype = .runLength →
      ∃ t, step s = .next t ∧ Faulted { s with calls := rest } t (.runLengthNonClut .b s.y))

/-- Producing the pixels of a position writes exactly the two columns `2k` and `2k+1` of the current line (43 R230, 44 R252 to
R255, 46 R292). Each plane's buffer takes its decoded pixel as it is, where the plane is OFF or is plane A while plane B is
RGB555, and else the pixel resolved with the plane's nibble (`TA`, by default bits 3:0, or `TB`, by default bits 11:8), its
transparent colour and its flags. The screen takes, in overlay mode, the front plane's pixel scaled by its factor, else the
back plane's, else the backdrop, and in mix mode the mix of both. The division into steps is the model's choice (log 5), and
so are the places that another layout than the default gives the fields whose bits a rule writes out (log 11). -/
def Obligations.PositionWritesItsTwoColumns : Prop :=
  ∀ s : State, s.Inv → s.phase = .pixels →
    ∃ t, step s = .next t ∧
      (∀ (p : Plane) (l x : Nat), Grid.pixelAt s.cfg.width (t.planes.get p) l x =
        if l = s.y ∧ (x = 2 * s.line.k ∨ x = 2 * s.line.k + 1) then
          (if s.codingMethod p = .off ∨ (p = .a ∧ s.codingMethod .b = .rgb555) then
            padGet Px.clear (s.line.px.get p) x
          else
            resolvePixel s.cfg.fields s.cfg.keyMask (s.reg (.tcol p)) (s.mflag.get p)
              ((s.reg .tc).extractLsb' (match p with | .a => s.cfg.fields.ta | .b => s.cfg.fields.tb) 4)
              (padGet Px.clear (s.line.px.get p) x))
        else Grid.pixelAt s.cfg.width (s.planes.get p) l x) ∧
      (∀ x : Nat, x = 2 * s.line.k ∨ x = 2 * s.line.k + 1 →
        ∀ (pa pb : Px) (fa fb : BitVec 6), Grid.pixelAt s.cfg.width t.planes.a s.y x = pa →
          Grid.pixelAt s.cfg.width t.planes.b s.y x = pb →
          (s.reg (.icf .a)).extractLsb' s.cfg.fields.factor 6 = fa →
          (s.reg (.icf .b)).extractLsb' s.cfg.fields.factor 6 = fb →
          Grid.pixelAt s.cfg.width t.screen s.y x =
            (if (s.reg .tc).getLsbD s.cfg.fields.mx then mixPx pa pb fa fb
            else if pa.a = 0 ∧ pb.a = 0 then padGet Px.clear s.bdstrip s.y
            else if ((s.reg .po).getLsbD s.cfg.fields.bf = false ∧ pa.a ≠ 0) ∨ pb.a = 0 then scalePx fa pa
            else scalePx fb pb)) ∧
      (∀ l x : Nat, ¬(l = s.y ∧ (x = 2 * s.line.k ∨ x = 2 * s.line.k + 1)) →
        Grid.pixelAt s.cfg.width t.screen l x = Grid.pixelAt s.cfg.width s.screen l x) ∧
      (s.cfg.fields = defaultFieldLayout →
        s.cfg.fields.ta = 0 ∧ s.cfg.fields.tb = 8 ∧ s.cfg.fields.mx = 23 ∧ s.cfg.fields.bf = 0 ∧
          s.cfg.fields.factor = 0) ∧
      t = { s with
        planes := t.planes
        screen := t.screen
        y := t.y
        line := t.line
        phase := t.phase
        outputs := t.outputs }

/-- After the pixels of a position the next position follows with plane A's tracker; after the last one the line counter is
incremented and the operation returns the bytes consumed from each stream (46 R292, 42 R211). -/
def Obligations.PositionsFollowToTheEndOfTheLine : Prop :=
  ∀ s : State, s.phase = .pixels →
    ∃ t, step s = .next t ∧
      (s.line.k + 1 < s.cfg.width / 2 →
        t.line = { s.line with plane := .a, k := s.line.k + 1 } ∧ t.phase = .matte ∧ t.y = s.y ∧
          t.outputs = s.outputs) ∧
      (s.cfg.width / 2 ≤ s.line.k + 1 →
        t.phase = .idle ∧ t.y = s.y + 1 ∧ t.outputs = s.outputs ++ [.advanced s.line.usedA s.line.usedB])

/-- FinalizeFrame (46 R294, 45 R274, R276): an incomplete frame faults, then a cursor with `CEN` and `CRES` set; else the cursor
is drawn, the blink timer ticks, the lines of the screen are handed out as an event and as the result, and `y` is 0. The two
fields are the bits of `CURCTL` that `CURSOR_LAYOUT` names, with the tentative layout of 30_encoding R95 bits 23 and 7. -/
def Obligations.FinalizeFrameHandsOutTheScreen : Prop :=
  ∀ (s : State) (rest : List HostCall) (cen cres : Bool), s.phase = .idle → s.fault = none →
    s.calls = .op .finalizeFrame :: rest → cen = (s.reg .curctl).getLsbD s.cfg.cursor.cen →
    cres = (s.reg .curctl).getLsbD s.cfg.cursor.cres →
    (s.y ≠ s.cfg.height → ∃ t, step s = .next t ∧ Faulted { s with calls := rest } t (.frameIncomplete s.y)) ∧
    (s.y = s.cfg.height → cen = true → cres = true →
      ∃ t, step s = .next t ∧ Faulted { s with calls := rest } t (.doubleResCursor (s.reg .curctl))) ∧
    (s.y = s.cfg.height → ¬(cen = true ∧ cres = true) →
      ∃ t frame, step s = .next t ∧ frame.length = s.cfg.height ∧
        (∀ l x : Nat, l < s.cfg.height →
          Grid.pixelAt s.cfg.width frame l x = Grid.pixelAt s.cfg.width s.drawCursor.screen l x) ∧
        t = { s with
          screen := s.drawCursor.screen
          cvis := s.blinkTick.cvis
          ccount := s.blinkTick.ccount
          y := 0
          calls := rest
          outputs := s.outputs ++ [.frameCompleted frame, .finalized frame] }) ∧
    (s.cfg.cursor = defaultCursorLayout → s.cfg.cursor.cen = 23 ∧ s.cfg.cursor.cres = 7)

/-- 45_cursor R273: with an OFF period of 0 the cursor stays on; else the count rises by one, and when the period of the phase
has elapsed the phase changes and the count is 0. The periods are the unsigned values of the fields `CON` and `COFF` of
`CURCTL` where `CURSOR_LAYOUT` places them, with the tentative layout of 30_encoding R95 bits 14:12 and 10:8. -/
def Obligations.BlinkTimerTogglesAfterItsPeriod : Prop :=
  ∀ (s t : State) (on off : Nat),
    on = (s.reg .curctl).toNat / 2 ^ s.cfg.cursor.con.lo % 2 ^ s.cfg.cursor.con.width →
    off = (s.reg .curctl).toNat / 2 ^ s.cfg.cursor.coff.lo % 2 ^ s.cfg.cursor.coff.width → s.blinkTick = t →
    (off = 0 → t.cvis = true ∧ t.ccount = 0) ∧
    (off ≠ 0 → s.ccount + 1 < (if s.cvis then on else off) * s.cfg.blinkUnit →
      t.cvis = s.cvis ∧ t.ccount = s.ccount + 1) ∧
    (off ≠ 0 → (if s.cvis then on else off) * s.cfg.blinkUnit ≤ s.ccount + 1 →
      t.cvis = !s.cvis ∧ t.ccount = 0) ∧
    t = { s with cvis := t.cvis, ccount := t.ccount } ∧
    (s.cfg.cursor = defaultCursorLayout → s.cfg.cursor.con = ⟨12, 3⟩ ∧ s.cfg.cursor.coff = ⟨8, 3⟩)

/-- The cursor overlay (45 R270 to R275): exactly the screen pixels that a set cursor pixel covers take the cursor colour, clipped
to the screen; every other pixel is unchanged, and nothing is drawn unless the cursor is enabled and in its ON phase. The
position is that of the fields `CX` and `CY` of `CURPOS`, the enable is `CEN` and the code `CCOL` of `CURCTL`, where
`CURSOR_LAYOUT` places them. The colour is opaque, at the full level where bit 3 of the code is set and at the half level
elsewhere, with red, green and blue gated by its bits 2, 1 and 0, or by those that another `FIELD_LAYOUT` names, which is the
model's choice (log 11). -/
def Obligations.CursorPaintsItsSetPixels : Prop :=
  ∀ (s : State) (l x cx cy : Nat) (code : BitVec 4) (lvl : Byte) (cen : Bool), s.Inv →
    cx = (s.reg .curpos).toNat / 2 ^ s.cfg.cursor.cx.lo % 2 ^ s.cfg.cursor.cx.width →
    cy = (s.reg .curpos).toNat / 2 ^ s.cfg.cursor.cy.lo % 2 ^ s.cfg.cursor.cy.width →
    cen = (s.reg .curctl).getLsbD s.cfg.cursor.cen →
    code = (s.reg .curctl).extractLsb' s.cfg.cursor.ccol 4 →
    lvl = (if code.getLsbD 3 then s.cfg.bdFull else s.cfg.bdHalf) →
    let covered := l < s.cfg.height ∧ x < s.cfg.width ∧
      ∃ (r : Fin 16) (c : Nat), c < 16 ∧ (s.curpatAt r).getLsbD (15 - c) = true ∧ l = cy + r.val ∧
        ((s.cfg.displayRes = .normal ∧ (x = 2 * (cx / 2 + c) ∨ x = 2 * (cx / 2 + c) + 1)) ∨
          (s.cfg.displayRes = .doubleHigh ∧ x = cx + c))
    let colour : Px := {
      a := 255
      r := if code.getLsbD s.cfg.fields.gateR then lvl else 0
      g := if code.getLsbD s.cfg.fields.gateG then lvl else 0
      b := if code.getLsbD s.cfg.fields.gateB then lvl else 0 }
    (cen = true → s.cvis = true → covered →
      Grid.pixelAt s.cfg.width s.drawCursor.screen l x = colour) ∧
    (¬(cen = true ∧ s.cvis = true ∧ covered) →
      Grid.pixelAt s.cfg.width s.drawCursor.screen l x = Grid.pixelAt s.cfg.width s.screen l x) ∧
    s.drawCursor = { s with screen := s.drawCursor.screen } ∧
    (s.cfg.fields = defaultFieldLayout →
      s.cfg.fields.gateR = 2 ∧ s.cfg.fields.gateG = 1 ∧ s.cfg.fields.gateB = 0) ∧
    (s.cfg.cursor = defaultCursorLayout →
      s.cfg.cursor.cx = ⟨0, 10⟩ ∧ s.cfg.cursor.cy = ⟨12, 10⟩ ∧ s.cfg.cursor.cen = 23 ∧ s.cfg.cursor.ccol = 0)

/-- Host accesses to control registers and display parameters (46 R296, R297): a read answers the stored 24 bits zero-extended; a
write stores bits 23:0 and nothing else, from no channel and without a combination check; a write of `DP_p` decodes as
LOAD_DP and raises `Fatal(ReservedBpp)` on the reserved class. That the record of such a write holds the plane and the 32-bit
value is the model's reading of 60_exceptions R311 (log 23). -/
def Obligations.HostRegisterAccess : Prop :=
  ∀ (s : State) (x : Reg) (p : Plane) (v : Word) (rest : List HostCall), s.phase = .idle → s.fault = none →
    (s.calls = .op (.readReg (.ctl x)) :: rest →
      step s = .next { s with calls := rest, outputs := s.outputs ++ [.value ((s.reg x).setWidth 32)] }) ∧
    (s.calls = .op (.readReg (.dp p)) :: rest →
      step s = .next { s with calls := rest, outputs := s.outputs ++ [.value ((s.dp.get p).raw.setWidth 32)] }) ∧
    (s.calls = .op (.writeReg (.ctl x) v) :: rest →
      ∃ t, step s = .next t ∧ t.reg x = v.setWidth 24 ∧ SameRegsBut x s t ∧
        t = { s with regs := t.regs, calls := rest, outputs := s.outputs ++ [.done] }) ∧
    (s.calls = .op (.writeReg (.dp p) v) :: rest → v.toNat / 256 % 4 ≠ 3 →
      ∃ t, step s = .next t ∧ decodeDp (v.setWidth 24) = some (t.dp.get p) ∧
        (t.dp.get p).raw = v.setWidth 24 &&& 0x00030F ∧ t.dp.get (otherPlane p) = s.dp.get (otherPlane p) ∧
        t = { s with dp := t.dp, calls := rest, outputs := s.outputs ++ [.done] }) ∧
    (s.calls = .op (.writeReg (.dp p) v) :: rest → v.toNat / 256 % 4 = 3 →
      ∃ t, step s = .next t ∧ Faulted { s with calls := rest } t (.reservedBpp (.hostWrite p v)))

/-- Host accesses to the tables (46 R298): within the table a read answers the entry zero-extended and a write stores the low bits of
one entry, without a bank or channel restriction; an index outside the table is `Contract(IndexOutOfRange)`. -/
def Obligations.HostTableAccess : Prop :=
  ∀ (s : State) (i : Nat) (v : Word) (rest : List HostCall), s.phase = .idle → s.fault = none →
    (s.calls = .op (.readClut i) :: rest →
      (∀ h : i < 256, step s = .next { s with
        calls := rest, outputs := s.outputs ++ [.value ((s.clut[i]'h).setWidth 32)] }) ∧
      (256 ≤ i → ∃ t, step s = .next t ∧ Faulted { s with calls := rest } t (.indexOutOfRange .clut i))) ∧
    (s.calls = .op (.writeClut i v) :: rest →
      (i < 256 → ∃ t, step s = .next t ∧
        (∀ e : Byte, t.clutAt e = if e.toNat = i then v.setWidth 24 else s.clutAt e) ∧
        t = { s with clut := t.clut, calls := rest, outputs := s.outputs ++ [.done] }) ∧
      (256 ≤ i → ∃ t, step s = .next t ∧ Faulted { s with calls := rest } t (.indexOutOfRange .clut i))) ∧
    (s.calls = .op (.readMatte i) :: rest →
      (∀ h : i < 8, step s = .next { s with
        calls := rest, outputs := s.outputs ++ [.value ((s.matte[i]'h).setWidth 32)] }) ∧
      (8 ≤ i → ∃ t, step s = .next t ∧ Faulted { s with calls := rest } t (.indexOutOfRange .matte i))) ∧
    (s.calls = .op (.writeMatte i v) :: rest →
      (i < 8 → ∃ t, step s = .next t ∧
        (∀ e : Fin 8, t.matteAt e = if e.val = i then v.setWidth 24 else s.matteAt e) ∧
        t = { s with matte := t.matte, calls := rest, outputs := s.outputs ++ [.done] }) ∧
      (8 ≤ i → ∃ t, step s = .next t ∧ Faulted { s with calls := rest } t (.indexOutOfRange .matte i))) ∧
    (s.calls = .op (.readCurpat i) :: rest →
      (∀ h : i < 16, step s = .next { s with
        calls := rest, outputs := s.outputs ++ [.value ((s.curpat[i]'h).setWidth 32)] }) ∧
      (16 ≤ i → ∃ t, step s = .next t ∧ Faulted { s with calls := rest } t (.indexOutOfRange .curpat i))) ∧
    (s.calls = .op (.writeCurpat i v) :: rest →
      (i < 16 → ∃ t, step s = .next t ∧
        (∀ e : Fin 16, t.curpatAt e = if e.val = i then v.setWidth 16 else s.curpatAt e) ∧
        t = { s with curpat := t.curpat, calls := rest, outputs := s.outputs ++ [.done] }) ∧
      (16 ≤ i → ∃ t, step s = .next t ∧ Faulted { s with calls := rest } t (.indexOutOfRange .curpat i)))

/-! ## The whole machine -/

/-- The invariant of the machine is kept by every step, from every state that has it. -/
def Obligations.EveryStepKeepsTheInvariant : Prop :=
  ∀ s t : State, s.Inv → step s = .next t → t.Inv

/-- Every step answers a next state, never a fault or a refusal of the model, and no step changes a parameter. -/
def Obligations.EveryStepAnswersNextWithTheSameParameters : Prop :=
  ∀ s : State, ∃ t, step s = .next t ∧ t.cfg = s.cfg

/-- 70_reset_and_hazards R355: no step clears or changes a fault record, Reset included. -/
def Obligations.FaultRecordIsNeverCleared : Prop :=
  ∀ (s t : State) (f : Fault), step s = .next t → s.fault = some f → t.fault = some f

/-- 60_exceptions R314: a faulted block answers every operation with `Faulted(fault)` and changes no state. -/
def Obligations.FaultedBlockIsQuiescent : Prop :=
  ∀ (s : State) (f : Fault) (o : HostOp) (rest : List HostCall), s.phase = .idle → s.fault = some f →
    s.calls = .op o :: rest →
    step s = .next { s with calls := rest, outputs := s.outputs ++ [.faulted f] }

/-- 20_memory R61: the block never changes the region; only a host write, taken between operations, does. -/
def Obligations.RegionIsReadOnlyToTheBlock : Prop :=
  ∀ s t : State, step s = .next t →
    (s.phase ≠ .idle → t.region = s.region ∧ SameBytes s t) ∧
    ((∀ a v rest, s.calls ≠ .writeRegion a v :: rest) → t.region = s.region ∧ SameBytes s t)

/-- What the host does that is no operation of the block, between operations (20_memory R60, R62, R67; 60 R330). A write of the
region keeps the canonical form, is read back at its address modulo the region size (log 9), and leaves every other byte; a
change of an interrupt disable input changes that input alone (log 4); with no call pending an idle block keeps its state.
That these land as calls of their own is the model's choice (log 6). -/
def Obligations.HostInputsLandBetweenOperations : Prop :=
  ∀ s : State, s.phase = .idle →
    (∀ (a : Nat) (v : Byte) (rest : List HostCall), Memory.wf s.cfg.regionSize s.region = true →
      s.calls = .writeRegion a v :: rest →
      ∃ t, step s = .next t ∧ Memory.wf t.cfg.regionSize t.region = true ∧
        (∀ b : Nat, t.byteAt b = if b % s.cfg.regionSize = a % s.cfg.regionSize then v else s.byteAt b) ∧
        t = { s with region := t.region, calls := rest }) ∧
    (∀ (ch : Channel) (v : Bool) (rest : List HostCall), s.calls = .setIntDisable ch v :: rest →
      ∃ t, step s = .next t ∧ (∀ c : Channel, t.intDisable.get c.plane = if c = ch then v else s.intDisable.get c.plane) ∧
        t = { s with intDisable := t.intDisable, calls := rest }) ∧
    (s.calls = [] → step s = .next s)

/-- What the channels cannot do (60 R325): no DCP word executed on channel B changes a register, a cursor row, a low CLUT entry or
the display parameters that belong to channel A, and without `P_CH_A_WRITES_B` none executed on channel A changes plane
B's. -/
def Obligations.ChannelsKeepToTheirRegisters : Prop :=
  ∀ (i : Instr) (s t : State), i.isMatte = false → exec i s = .next t →
    (s.run.ch = .b →
      (∀ x ∈ [Reg.icm, .tc, .po, .backdrop, .curpos, .curctl, .tcol .a, .mcol .a, .dyuv .a, .mosaic .a, .icf .a],
        t.reg x = s.reg x) ∧
      t.curpat = s.curpat ∧ (∀ e : Byte, e.toNat < 128 → t.clutAt e = s.clutAt e) ∧ t.dp.a = s.dp.a) ∧
    (s.run.ch = .a → s.cfg.chAWritesB = false →
      (∀ x ∈ [Reg.tcol .b, .mcol .b, .dyuv .b, .mosaic .b, .icf .b], t.reg x = s.reg x) ∧ t.dp.b = s.dp.b)

/-- A run returns within its budget: at most one step for each word left and one for the return (40 R111). -/
def Obligations.RunReturnsWithinItsBudget : Prop :=
  ∀ s : State, s.phase = .run →
    ∃ (n : Nat) (t : State), n ≤ s.run.budget - s.run.count + 1 ∧ Sys2Proof.core.run n s = .next t ∧ t.phase = .idle

/-- A scanline completes: from the tracker's first step of a position, in at most three steps for each position left, the block is
idle, with the line counter incremented unless a reserved matte opcode faulted (46 R292). -/
def Obligations.ScanlineCompletes : Prop :=
  ∀ s : State, s.phase = .matte → s.line.plane = .a → s.fault = none → s.line.k < s.cfg.width / 2 →
    ∃ (n : Nat) (t : State), n ≤ 3 * (s.cfg.width / 2 - s.line.k) ∧ Sys2Proof.core.run n s = .next t ∧
      t.phase = .idle ∧ (t.fault = none → t.y = s.y + 1) ∧ (s.cfg.matteReserved = .log → t.fault = none)

/-- 46_sequencer R295: from every state with the invariant, a frame that is handed out carries `P_H` lines of `P_WD` pixels, each
with alpha 255. -/
def Obligations.FinalizedFrameIsOpaque : Prop :=
  ∀ (s t : State) (rest : List HostCall) (frame : Grid), s.Inv → s.phase = .idle →
    s.calls = .op .finalizeFrame :: rest → step s = .next t →
    t.outputs = s.outputs ++ [.frameCompleted frame, .finalized frame] →
    frame.length = s.cfg.height ∧ (∀ l ∈ frame, l.length = s.cfg.width ∧ ∀ px ∈ l, px.a = 255)

/-! ## Pixel decoders -/

/-- A line decode (41 R160 to R166, R178). When it answers a line and which fault it raises else: an OFF plane, whatever its
display parameters, and so plane A while plane B is RGB555, gives a line of CLEAR pixels from no byte; plane A while plane B
is RGB555 and A is not OFF, a Mosaic plane, and a RunLength plane of DYUV or RGB555 fault; a RunLength plane of a CLUT
method answers what RL3, for the class Double4, or RL7 gives, an overrun among it; every other plane answers a line. A
decoded line is exactly as wide as the line buffer, whatever the method, and the bytes it consumes from each stream are those
of 41 R178, with the bounds that the run-length items give. -/
def Obligations.DecodedLineFillsTheBufferAndCountsItsBytes : Prop :=
  ∀ (s : State) (p : Plane) (ptrA ptrB : Nat),
    let undecoded := p = .a ∧ s.codingMethod .b = .rgb555
    let items (ptr : Nat) :=
      if (s.dp.get p).bpp = .double4 then s.rl3 p (s.codingMethod p) ptr else s.rl7 p (s.codingMethod p) ptr
    s.decodeWidth p = (if (s.dp.get p).bpp = .normal8 then s.cfg.width / 2 else s.cfg.width) ∧
    (s.codingMethod p = .off → ∃ r, s.decodePlane p ptrA ptrB = .ok r ∧
      r.px = List.replicate s.cfg.width ⟨0, 0, 0, 0⟩ ∧ r.usedA = 0 ∧ r.usedB = 0) ∧
    (undecoded → s.codingMethod p ≠ .off →
      s.decodePlane p ptrA ptrB = .error (.rgb555WithPlaneA s.y (s.codingMethod p))) ∧
    (¬undecoded → s.codingMethod p ≠ .off →
      ((s.dp.get p).itype = .mosaic → s.decodePlane p ptrA ptrB = .error (.mosaicImageType p s.y)) ∧
      ((s.dp.get p).itype = .runLength → s.codingMethod p ∈ [CodingMethod.dyuv, .rgb555] →
        s.decodePlane p ptrA ptrB = .error (.runLengthNonClut p s.y)) ∧
      ((s.dp.get p).itype = .runLength → s.codingMethod p ∉ [CodingMethod.dyuv, .rgb555] →
        ∀ ptr : Nat, ptr = (match p with | .a => ptrA | .b => ptrB) →
          (∀ f, items ptr = .error f → s.decodePlane p ptrA ptrB = .error f) ∧
          (∀ q, items ptr = .ok q → ∃ r, s.decodePlane p ptrA ptrB = .ok r)) ∧
      ((s.dp.get p).itype = .normal → ∃ r, s.decodePlane p ptrA ptrB = .ok r)) ∧
    (∀ (own other : Nat) (r : Decoded), s.decodePlane p ptrA ptrB = .ok r →
      (own, other) = (match p with | .a => (r.usedA, r.usedB) | .b => (r.usedB, r.usedA)) →
      r.px.length = s.cfg.width ∧
      (s.codingMethod p ∈ [CodingMethod.clut8, .clut7, .clut77, .dyuv] → (s.dp.get p).itype = .normal →
        own = s.decodeWidth p ∧ other = 0) ∧
      (s.codingMethod p = .clut4 → (s.dp.get p).itype = .normal → own = s.decodeWidth p / 2 ∧ other = 0) ∧
      (s.codingMethod p = .rgb555 → r.usedA = s.decodeWidth .b ∧ r.usedB = s.decodeWidth .b) ∧
      (s.codingMethod p ≠ .off → (s.dp.get p).itype = .runLength →
        1 ≤ own ∧ own ≤ 2 * s.decodeWidth p ∧ other = 0))

/-- The pixels of an indexed-colour line (41 R167 to R170): position `x` shows, opaque, the CLUT entry of its code, which is byte
`k` for CLUT8, CLUT7 and CLUT7+7 and a nibble of byte `k / 2`, the high one first, for CLUT4, where `k` is `x`, or `x / 2`
where pixels are duplicated. -/
def Obligations.IndexedLineShowsItsEntries : Prop :=
  ∀ (s : State) (p : Plane) (ptrA ptrB ptr x k : Nat) (r : Decoded), s.decodePlane p ptrA ptrB = .ok r →
    (s.dp.get p).itype = .normal → x < s.cfg.width →
    ptr = (match p with | .a => ptrA | .b => ptrB) → k = (if (s.dp.get p).bpp = .normal8 then x / 2 else x) →
    let shown (e : Byte) : Px := {
      a := 255
      r := (s.clutAt e).extractLsb' s.cfg.fields.red 8
      g := (s.clutAt e).extractLsb' s.cfg.fields.green 8
      b := (s.clutAt e).extractLsb' s.cfg.fields.blue 8 }
    (p = .a → s.codingMethod p = .clut8 →
      r.px[x]? = some (shown ((s.byteAt (ptr + k))))) ∧
    (p = .a → s.codingMethod p = .clut7 →
      r.px[x]? = some (shown ((BitVec.ofNat 8 ((s.byteAt (ptr + k)).toNat % 128))))) ∧
    (p = .a → s.codingMethod p = .clut77 →
      r.px[x]? = some (shown ((BitVec.ofNat 8
        ((s.byteAt (ptr + k)).toNat % 128 + if (s.reg .icm).getLsbD s.cfg.fields.cs then 128 else 0))))) ∧
    (p = .b → s.codingMethod p = .clut7 →
      r.px[x]? = some (shown ((BitVec.ofNat 8 ((s.byteAt (ptr + k)).toNat % 128 + 128))))) ∧
    (s.codingMethod p = .clut4 →
      r.px[x]? = some (shown ((BitVec.ofNat 8
        ((if k % 2 = 0 then (s.byteAt (ptr + k / 2)).toNat / 16 else (s.byteAt (ptr + k / 2)).toNat % 16) +
          match p with | .a => 0 | .b => 128)))))

/-- A DYUV line (41 R171, R174, R161; 30 R92). The carry after `n` words is the seed plus the dequantised deltas of those words,
modulo 256; word `j` gives the pixels `2j` and `2j+1`, from the carry that the words before it leave, and each is opaque. A
line decode starts from the seed in the plane's DYUV register (by default Y in bits 23:16, U in 15:8, V in 7:0), reads its
words from the plane's own pointer, and shows the pixels in order, each twice where pixels are duplicated. That the decode
hands on the carry it leaves is the model's choice (log 20). -/
def Obligations.DyuvCarryAccumulatesDeltas : Prop :=
  (∀ (s : State) (n ptr : Nat) (c : Carry),
    let w (j : Nat) : BitVec 16 := s.byteAt (ptr + 2 * j) ++ s.byteAt (ptr + 2 * j + 1)
    let q (b : BitVec 4) : Nat := (s.cfg.dequant[b.toNat]'b.isLt).toNat
    let r := s.dyuvWords n ptr c
    r.1.length = 2 * n ∧ (∀ px ∈ r.1, px.a = 255) ∧
      (∀ j : Nat, j < n →
        r.1[2 * j]? = some (dyuvWord s.cfg.dequant s.cfg.yuv (w j) (s.dyuvWords j ptr c).2).1 ∧
        r.1[2 * j + 1]? = some (dyuvWord s.cfg.dequant s.cfg.yuv (w j) (s.dyuvWords j ptr c).2).2.1) ∧
      r.2.u.toNat = (c.u.toNat + ((List.range n).map fun j => q ((w j).extractLsb' 12 4)).sum) % 256 ∧
      r.2.v.toNat = (c.v.toNat + ((List.range n).map fun j => q ((w j).extractLsb' 4 4)).sum) % 256 ∧
      r.2.y.toNat =
        (c.y.toNat + ((List.range n).map fun j => q ((w j).extractLsb' 8 4) + q ((w j).extractLsb' 0 4)).sum) % 256) ∧
  (∀ (s : State) (p : Plane) (ptrA ptrB ptr x : Nat) (r : Decoded) (seed : Carry), s.codingMethod p = .dyuv →
    (s.dp.get p).itype = .normal → s.decodePlane p ptrA ptrB = .ok r → x < s.cfg.width →
    ptr = (match p with | .a => ptrA | .b => ptrB) →
    seed = {
      y := (s.reg (.dyuv p)).extractLsb' s.cfg.fields.seedY 8
      u := (s.reg (.dyuv p)).extractLsb' s.cfg.fields.seedU 8
      v := (s.reg (.dyuv p)).extractLsb' s.cfg.fields.seedV 8 } →
    r.px[x]? = (s.dyuvWords (s.decodeWidth p / 2) ptr seed).1[if (s.dp.get p).bpp = .normal8 then x / 2 else x]? ∧
    r.carry = (s.dyuvWords (s.decodeWidth p / 2) ptr seed).2)

/-- The two pixels of a DYUV word (41 R173, R174): pixel 1 takes the first luminance delta and the average of the previous and
the new chroma, rounded down; pixel 2 adds the second luminance delta and takes the new chroma. With the `YUV2RGB` of R173,
whose offset, truncation and signs that rule marks as its own reading and which the model takes as one of two kinds of
`YUV2RGB` (log 12, PRESUMED), each is converted with truncating divisions and clamped; with any `YUV2RGB` it is opaque. -/
def Obligations.DyuvWordPixels : Prop :=
  ∀ (t : Vector Byte 16) (m : YuvMap) (w : BitVec 16) (c : Carry) (u2 v2 y1 y2 : Nat),
    u2 = (c.u.toNat + (t[(w.toNat / 4096)]!).toNat) % 256 → y1 = (c.y.toNat + (t[(w.toNat / 256 % 16)]!).toNat) % 256 →
    v2 = (c.v.toNat + (t[(w.toNat / 16 % 16)]!).toNat) % 256 → y2 = (y1 + (t[(w.toNat % 16)]!).toNat) % 256 →
    let rgb (y u v : Nat) : Px := ⟨255,
      clamp8 ((y : Int) + Int.tdiv (351 * ((v : Int) - 128)) 256),
      clamp8 ((y : Int) - Int.tdiv (86 * ((u : Int) - 128)) 256 - Int.tdiv (179 * ((v : Int) - 128)) 256),
      clamp8 ((y : Int) + Int.tdiv (444 * ((u : Int) - 128)) 256)⟩
    let map (y u v : Nat) : Px := yuv2rgb m (BitVec.ofNat 8 y) (BitVec.ofNat 8 u) (BitVec.ofNat 8 v)
    let d := dyuvWord t m w c
    d.1 = map y1 ((c.u.toNat + u2) / 2) ((c.v.toNat + v2) / 2) ∧ d.2.1 = map y2 u2 v2 ∧
      d.1.a = 255 ∧ d.2.1.a = 255 ∧
      (m = .standard → d.1 = rgb y1 ((c.u.toNat + u2) / 2) ((c.v.toNat + v2) / 2) ∧ d.2.1 = rgb y2 u2 v2) ∧
      d.2.2 = ⟨BitVec.ofNat 8 y2, BitVec.ofNat 8 u2, BitVec.ofNat 8 v2⟩

/-- The pixels of an RGB555 line (41 R175, 30 R103), with the default layout: pixel `k` takes its high byte from plane A's
stream and its low byte from plane B's; bit 15 gives alpha 255 or 0, and each colour is its 5 bits times 8 with the default
expansion. -/
def Obligations.Rgb555LinePixels : Prop :=
  ∀ (s : State) (ptrA ptrB x k w : Nat) (r : Decoded), s.codingMethod .b = .rgb555 →
    s.decodePlane .b ptrA ptrB = .ok r → s.cfg.rgb5 = defaultRgb5 →
    s.cfg.fields = defaultFieldLayout → x < s.cfg.width →
    k = (if s.dp.b.bpp = .normal8 then x / 2 else x) →
    w = (s.byteAt (ptrA + k)).toNat * 256 + (s.byteAt (ptrB + k)).toNat →
    ∃ px, r.px[x]? = some px ∧ px.a = (if 32768 ≤ w then 255 else 0) ∧ px.r.toNat = w / 1024 % 32 * 8 ∧
      px.g.toNat = w / 32 % 32 * 8 ∧ px.b.toNat = w % 32 * 8

/-- A run-length decode never overruns the line: it gives exactly the decode width in pixels from at least 1 and at most two bytes
a pixel, and with `P_RL_OVERRUN = clamp` it never faults (41 R176, R177). -/
def Obligations.RunLengthFillsTheLineExactly : Prop :=
  ∀ (s : State) (p : Plane) (m : CodingMethod) (ptr : Nat),
    (∀ r, s.rl7 p m ptr = .ok r →
      r.1.length = s.decodeWidth p ∧ 1 ≤ r.2 ∧ r.2 ≤ 2 * s.decodeWidth p) ∧
    (∀ r, s.rl3 p m ptr = .ok r →
      r.1.length = s.decodeWidth p ∧ 1 ≤ r.2 ∧ r.2 ≤ s.decodeWidth p) ∧
    (s.cfg.rlOverrun = .clamp → (∃ r, s.rl7 p m ptr = .ok r) ∧ ∃ r, s.rl3 p m ptr = .ok r)

/-- The items of a run-length line (41 R176, R177), from any pixel `x` and byte `i` on, each with `unit` pixels a unit: an item
without the count bit gives one unit from one byte; with it, a count from 1 to what is left gives that many units from two
bytes, and a count of 0 the rest of the line; a longer count is clamped to the rest of the line, or faults, as the parameter
says. RL7 gives one pixel a unit, of the code in bits 6:0, RL3 two, of the codes in bits 6:4 and 2:0, each the opaque CLUT
entry of its code, of which CLUT4 takes the low four bits, in the upper half of the table for plane B and for CLUT7+7 with
`CS` (41 R167, R168). A line decode shows them in order, each twice where pixels are duplicated, with RL3 for the class
Double4. That the record of an overrun holds the pixel at which the item starts and the count that was read is the model's
reading of 60_exceptions R311 (log 23). -/
def Obligations.RunLengthItemsGiveTheirPixels : Prop :=
  (∀ (s : State) (p : Plane) (ptr unit : Nat) (colours : Byte → Line), unit = 1 ∨ unit = 2 →
    let items (x i : Nat) := s.rlItems p ptr unit colours (s.decodeWidth p) x i
    (∀ i : Nat, items (s.decodeWidth p) i = .ok ([], i)) ∧
    (∀ (x i n left : Nat) (b : Byte), x < s.decodeWidth p → unit ∣ x → b = s.byteAt (ptr + i) →
      n = (s.byteAt (ptr + i + 1)).toNat → left = (s.decodeWidth p - x) / unit →
      let units (k : Nat) : Line := (List.replicate k (colours b)).flatten
      let after (k used : Nat) := (items (x + k * unit) (i + used)).map fun r => (units k ++ r.1, r.2)
      (b.toNat < 128 → items x i = after 1 1) ∧
      (128 ≤ b.toNat → 1 ≤ n → n ≤ left → items x i = after n 2) ∧
      (128 ≤ b.toNat → n = 0 → items x i = .ok (units left, i + 2)) ∧
      (128 ≤ b.toNat → left < n → s.cfg.rlOverrun = .clamp → items x i = .ok (units left, i + 2)) ∧
      (128 ≤ b.toNat → left < n → s.cfg.rlOverrun = .fault → items x i = .error (.runOverrun p s.y x n)))) ∧
  (∀ (s : State) (p : Plane) (m : CodingMethod) (ptr : Nat), s.codingMethod p = m →
    m ∈ [CodingMethod.clut8, .clut7, .clut77, .clut4] →
    let entry (c : Nat) : Payload := s.clutAt (BitVec.ofNat 8 ((if m = .clut4 then c % 16 else c) +
      if p = .b ∨ (m = .clut77 ∧ (s.reg .icm).getLsbD s.cfg.fields.cs = true) then 128 else 0))
    let shown (c : Nat) : Px := {
      a := 255
      r := (entry c).extractLsb' s.cfg.fields.red 8
      g := (entry c).extractLsb' s.cfg.fields.green 8
      b := (entry c).extractLsb' s.cfg.fields.blue 8 }
    s.rl7 p m ptr = s.rlItems p ptr 1 (fun b => [shown (b.toNat % 128)]) (s.decodeWidth p) 0 0 ∧
    s.rl3 p m ptr =
      s.rlItems p ptr 2 (fun b => [shown (b.toNat / 16 % 8), shown (b.toNat % 8)]) (s.decodeWidth p) 0 0) ∧
  (∀ (s : State) (p : Plane) (ptrA ptrB ptr x : Nat) (r : Decoded), s.codingMethod p ≠ .off →
    (s.dp.get p).itype = .runLength → s.decodePlane p ptrA ptrB = .ok r → x < s.cfg.width →
    ptr = (match p with | .a => ptrA | .b => ptrB) →
    ∃ q : Line × Nat,
      (if (s.dp.get p).bpp = .double4 then s.rl3 p (s.codingMethod p) ptr else s.rl7 p (s.codingMethod p) ptr) = .ok q ∧
      r.px[x]? = q.1[if (s.dp.get p).bpp = .normal8 then x / 2 else x]? ∧
      (match p with | .a => r.usedA | .b => r.usedB) = q.2)

/-! ## Resolver, compositor -/

/-- 43_transparency R236: the resolved alpha for every mode, polarity and input; the colour channels are never changed. The mode
is by default bits 2:0 of the nibble and the polarity bit 3 (30 R88); the key compares the pixel's colour with the stored
transparent colour under the mask (43 R231). That another `FIELD_LAYOUT` moves the mode, the polarity and the channels of the
transparent colour is the model's choice (log 11). -/
def Obligations.ResolvedAlphaTable : Prop :=
  ∀ (l : FieldLayout) (mask tcol key : Payload) (f : FlagPair) (t : BitVec 4) (px : Px) (k p : Bool) (m : Nat),
    m = t.toNat / 2 ^ l.mode % 8 → p = t.getLsbD l.polarity →
    key = tcol.extractLsb' l.red 8 ++ tcol.extractLsb' l.green 8 ++ tcol.extractLsb' l.blue 8 →
    k = decide ((px.r ++ px.g ++ px.b) &&& mask = key &&& mask) →
    let out := resolvePixel l mask tcol f t px
    let shown (c : Bool) : Byte := if p then (if c then 255 else 0) else (if c then 0 else 255)
    (m = 0 → out.a = shown true) ∧ (m = 1 → out.a = shown k) ∧
    (m = 2 → out.a = shown (px.a == 0)) ∧ (m = 3 → out.a = shown f.f0) ∧
    (m = 4 → out.a = shown f.f1) ∧ (m = 5 → out.a = shown (f.f0 || k)) ∧
    (m = 6 → out.a = shown (f.f1 || k)) ∧ (m = 7 → out.a = px.a) ∧
    out.r = px.r ∧ out.g = px.g ∧ out.b = px.b ∧
    (l = defaultFieldLayout → m = t.toNat % 8 ∧ p = decide (8 ≤ t.toNat) ∧ key = tcol)

/-- Contribution scaling (44_compositor R251, R256): the quotient of the formula is truncated toward zero, so that it rounds
toward 16, as in `scale(1, 0) = 16` and `scale(62, 0) = 1`; factor 63 is the identity, factor 0 gives 16, the value 16 stays
16, and no factor leaves 0..255, so the clamp never acts. A scaled pixel is opaque, each of its channels scaled. -/
def Obligations.ScaleIdentities : Prop :=
  scale 1 0 = 16 ∧ scale 62 0 = 1 ∧
  (∀ v : Byte, scale 63 v = v) ∧ (∀ v : Byte, scale 0 v = 16) ∧ (∀ f : BitVec 6, scale f 16 = 16) ∧
    (∀ (f : BitVec 6) (v : Byte),
      let q : Int := if 16 ≤ v.toNat then ((f.toNat * (v.toNat - 16) / 63 : Nat) : Int)
        else -((f.toNat * (16 - v.toNat) / 63 : Nat) : Int)
      0 ≤ q + 16 ∧ q + 16 ≤ 255 ∧ ((scale f v).toNat : Int) = q + 16) ∧
    (∀ (f : BitVec 6) (px : Px), scalePx f px = ⟨255, scale f px.r, scale f px.g, scale f px.b⟩)

/-- Mix mode (44 R254, R256): every result is opaque; two transparent pixels give 16 in each channel; a transparent pixel brings
nothing, so the other plane's scaled pixel is the result; two opaque pixels give the sum of their scaled channels less 16,
saturated to 0..255. -/
def Obligations.MixSumsTheScaledPlanes : Prop :=
  ∀ (qA qB : Px) (fA fB : BitVec 6),
    (mixPx qA qB fA fB).a = 255 ∧
    (qA.a = 0 → qB.a = 0 → mixPx qA qB fA fB = ⟨255, 16, 16, 16⟩) ∧
    (qA.a ≠ 0 → qB.a = 0 → mixPx qA qB fA fB = scalePx fA qA) ∧
    (qA.a = 0 → qB.a ≠ 0 → mixPx qA qB fA fB = scalePx fB qB) ∧
    (qA.a ≠ 0 → qB.a ≠ 0 →
      (mixPx qA qB fA fB).r.toNat = min ((scale fA qA.r).toNat + (scale fB qB.r).toNat - 16) 255 ∧
      (mixPx qA qB fA fB).g.toNat = min ((scale fA qA.g).toNat + (scale fB qB.g).toNat - 16) 255 ∧
      (mixPx qA qB fA fB).b.toNat = min ((scale fA qA.b).toNat + (scale fB qB.b).toNat - 16) 255)

/-- 44_compositor R250: the backdrop pixel of a line is opaque, at the full level where bit 3 of the code (by default bits 3:0 of
the register) is set and at the half level elsewhere, with red, green and blue gated by its bits (by default 2, 1 and 0). That another
`FIELD_LAYOUT` moves the code and the gates is the model's choice (log 11). -/
def Obligations.BackdropFollowsItsCode : Prop :=
  ∀ (s : State) (code : BitVec 4) (lvl : Byte), code = (s.reg .backdrop).extractLsb' s.cfg.fields.backdrop 4 →
    lvl = (if code.getLsbD 3 then s.cfg.bdFull else s.cfg.bdHalf) →
    s.backdropPx.a = 255 ∧
    s.backdropPx.r = (if code.getLsbD s.cfg.fields.gateR then lvl else 0) ∧
    s.backdropPx.g = (if code.getLsbD s.cfg.fields.gateG then lvl else 0) ∧
    s.backdropPx.b = (if code.getLsbD s.cfg.fields.gateB then lvl else 0) ∧
    (s.cfg.fields = defaultFieldLayout →
      s.cfg.fields.backdrop = 0 ∧ s.cfg.fields.gateR = 2 ∧ s.cfg.fields.gateG = 1 ∧ s.cfg.fields.gateB = 0)
end

