-- ==== Sys2Proof/Laws/State.lean ====
section
/-! SUPPORT. What each shared update does to each field of the state: one lemma per field per update, true by rfl. -/

namespace Sys2Proof.Machine

variable (s : State)

/-! ### logDev -/

@[simp] theorem logDev_cfg (d : Deviation) : (s.logDev d).cfg = s.cfg := rfl
@[simp] theorem logDev_regs (d : Deviation) : (s.logDev d).regs = s.regs := rfl
@[simp] theorem logDev_dp (d : Deviation) : (s.logDev d).dp = s.dp := rfl
@[simp] theorem logDev_clut (d : Deviation) : (s.logDev d).clut = s.clut := rfl
@[simp] theorem logDev_curpat (d : Deviation) : (s.logDev d).curpat = s.curpat := rfl
@[simp] theorem logDev_matte (d : Deviation) : (s.logDev d).matte = s.matte := rfl
@[simp] theorem logDev_mptr (d : Deviation) : (s.logDev d).mptr = s.mptr := rfl
@[simp] theorem logDev_mlim (d : Deviation) : (s.logDev d).mlim = s.mlim := rfl
@[simp] theorem logDev_mflag (d : Deviation) : (s.logDev d).mflag = s.mflag := rfl
@[simp] theorem logDev_carry (d : Deviation) : (s.logDev d).carry = s.carry := rfl
@[simp] theorem logDev_planes (d : Deviation) : (s.logDev d).planes = s.planes := rfl
@[simp] theorem logDev_screen (d : Deviation) : (s.logDev d).screen = s.screen := rfl
@[simp] theorem logDev_bdstrip (d : Deviation) : (s.logDev d).bdstrip = s.bdstrip := rfl
@[simp] theorem logDev_y (d : Deviation) : (s.logDev d).y = s.y := rfl
@[simp] theorem logDev_cvis (d : Deviation) : (s.logDev d).cvis = s.cvis := rfl
@[simp] theorem logDev_ccount (d : Deviation) : (s.logDev d).ccount = s.ccount := rfl
@[simp] theorem logDev_fault (d : Deviation) : (s.logDev d).fault = s.fault := rfl
@[simp] theorem logDev_log (d : Deviation) : (s.logDev d).log = s.log ++ [d] := rfl
@[simp] theorem logDev_run (d : Deviation) : (s.logDev d).run = s.run := rfl
@[simp] theorem logDev_line (d : Deviation) : (s.logDev d).line = s.line := rfl
@[simp] theorem logDev_phase (d : Deviation) : (s.logDev d).phase = s.phase := rfl
@[simp] theorem logDev_intDisable (d : Deviation) : (s.logDev d).intDisable = s.intDisable := rfl
@[simp] theorem logDev_region (d : Deviation) : (s.logDev d).region = s.region := rfl
@[simp] theorem logDev_calls (d : Deviation) : (s.logDev d).calls = s.calls := rfl
@[simp] theorem logDev_outputs (d : Deviation) : (s.logDev d).outputs = s.outputs := rfl

/-! ### logAll -/

@[simp] theorem logAll_cfg (ds : List Deviation) : (s.logAll ds).cfg = s.cfg := rfl
@[simp] theorem logAll_regs (ds : List Deviation) : (s.logAll ds).regs = s.regs := rfl
@[simp] theorem logAll_dp (ds : List Deviation) : (s.logAll ds).dp = s.dp := rfl
@[simp] theorem logAll_clut (ds : List Deviation) : (s.logAll ds).clut = s.clut := rfl
@[simp] theorem logAll_curpat (ds : List Deviation) : (s.logAll ds).curpat = s.curpat := rfl
@[simp] theorem logAll_matte (ds : List Deviation) : (s.logAll ds).matte = s.matte := rfl
@[simp] theorem logAll_mptr (ds : List Deviation) : (s.logAll ds).mptr = s.mptr := rfl
@[simp] theorem logAll_mlim (ds : List Deviation) : (s.logAll ds).mlim = s.mlim := rfl
@[simp] theorem logAll_mflag (ds : List Deviation) : (s.logAll ds).mflag = s.mflag := rfl
@[simp] theorem logAll_carry (ds : List Deviation) : (s.logAll ds).carry = s.carry := rfl
@[simp] theorem logAll_planes (ds : List Deviation) : (s.logAll ds).planes = s.planes := rfl
@[simp] theorem logAll_screen (ds : List Deviation) : (s.logAll ds).screen = s.screen := rfl
@[simp] theorem logAll_bdstrip (ds : List Deviation) : (s.logAll ds).bdstrip = s.bdstrip := rfl
@[simp] theorem logAll_y (ds : List Deviation) : (s.logAll ds).y = s.y := rfl
@[simp] theorem logAll_cvis (ds : List Deviation) : (s.logAll ds).cvis = s.cvis := rfl
@[simp] theorem logAll_ccount (ds : List Deviation) : (s.logAll ds).ccount = s.ccount := rfl
@[simp] theorem logAll_fault (ds : List Deviation) : (s.logAll ds).fault = s.fault := rfl
@[simp] theorem logAll_log (ds : List Deviation) : (s.logAll ds).log = s.log ++ ds := rfl
@[simp] theorem logAll_run (ds : List Deviation) : (s.logAll ds).run = s.run := rfl
@[simp] theorem logAll_line (ds : List Deviation) : (s.logAll ds).line = s.line := rfl
@[simp] theorem logAll_phase (ds : List Deviation) : (s.logAll ds).phase = s.phase := rfl
@[simp] theorem logAll_intDisable (ds : List Deviation) : (s.logAll ds).intDisable = s.intDisable := rfl
@[simp] theorem logAll_region (ds : List Deviation) : (s.logAll ds).region = s.region := rfl
@[simp] theorem logAll_calls (ds : List Deviation) : (s.logAll ds).calls = s.calls := rfl
@[simp] theorem logAll_outputs (ds : List Deviation) : (s.logAll ds).outputs = s.outputs := rfl

/-! ### emit -/

@[simp] theorem emit_cfg (o : Output) : (s.emit o).cfg = s.cfg := rfl
@[simp] theorem emit_regs (o : Output) : (s.emit o).regs = s.regs := rfl
@[simp] theorem emit_dp (o : Output) : (s.emit o).dp = s.dp := rfl
@[simp] theorem emit_clut (o : Output) : (s.emit o).clut = s.clut := rfl
@[simp] theorem emit_curpat (o : Output) : (s.emit o).curpat = s.curpat := rfl
@[simp] theorem emit_matte (o : Output) : (s.emit o).matte = s.matte := rfl
@[simp] theorem emit_mptr (o : Output) : (s.emit o).mptr = s.mptr := rfl
@[simp] theorem emit_mlim (o : Output) : (s.emit o).mlim = s.mlim := rfl
@[simp] theorem emit_mflag (o : Output) : (s.emit o).mflag = s.mflag := rfl
@[simp] theorem emit_carry (o : Output) : (s.emit o).carry = s.carry := rfl
@[simp] theorem emit_planes (o : Output) : (s.emit o).planes = s.planes := rfl
@[simp] theorem emit_screen (o : Output) : (s.emit o).screen = s.screen := rfl
@[simp] theorem emit_bdstrip (o : Output) : (s.emit o).bdstrip = s.bdstrip := rfl
@[simp] theorem emit_y (o : Output) : (s.emit o).y = s.y := rfl
@[simp] theorem emit_cvis (o : Output) : (s.emit o).cvis = s.cvis := rfl
@[simp] theorem emit_ccount (o : Output) : (s.emit o).ccount = s.ccount := rfl
@[simp] theorem emit_fault (o : Output) : (s.emit o).fault = s.fault := rfl
@[simp] theorem emit_log (o : Output) : (s.emit o).log = s.log := rfl
@[simp] theorem emit_run (o : Output) : (s.emit o).run = s.run := rfl
@[simp] theorem emit_line (o : Output) : (s.emit o).line = s.line := rfl
@[simp] theorem emit_phase (o : Output) : (s.emit o).phase = s.phase := rfl
@[simp] theorem emit_intDisable (o : Output) : (s.emit o).intDisable = s.intDisable := rfl
@[simp] theorem emit_region (o : Output) : (s.emit o).region = s.region := rfl
@[simp] theorem emit_calls (o : Output) : (s.emit o).calls = s.calls := rfl
@[simp] theorem emit_outputs (o : Output) : (s.emit o).outputs = s.outputs ++ [o] := rfl

/-! ### raise -/

@[simp] theorem raise_cfg (f : Fault) : (s.raise f).cfg = s.cfg := rfl
@[simp] theorem raise_regs (f : Fault) : (s.raise f).regs = s.regs := rfl
@[simp] theorem raise_dp (f : Fault) : (s.raise f).dp = s.dp := rfl
@[simp] theorem raise_clut (f : Fault) : (s.raise f).clut = s.clut := rfl
@[simp] theorem raise_curpat (f : Fault) : (s.raise f).curpat = s.curpat := rfl
@[simp] theorem raise_matte (f : Fault) : (s.raise f).matte = s.matte := rfl
@[simp] theorem raise_mptr (f : Fault) : (s.raise f).mptr = s.mptr := rfl
@[simp] theorem raise_mlim (f : Fault) : (s.raise f).mlim = s.mlim := rfl
@[simp] theorem raise_mflag (f : Fault) : (s.raise f).mflag = s.mflag := rfl
@[simp] theorem raise_carry (f : Fault) : (s.raise f).carry = s.carry := rfl
@[simp] theorem raise_planes (f : Fault) : (s.raise f).planes = s.planes := rfl
@[simp] theorem raise_screen (f : Fault) : (s.raise f).screen = s.screen := rfl
@[simp] theorem raise_bdstrip (f : Fault) : (s.raise f).bdstrip = s.bdstrip := rfl
@[simp] theorem raise_y (f : Fault) : (s.raise f).y = s.y := rfl
@[simp] theorem raise_cvis (f : Fault) : (s.raise f).cvis = s.cvis := rfl
@[simp] theorem raise_ccount (f : Fault) : (s.raise f).ccount = s.ccount := rfl
@[simp] theorem raise_fault (f : Fault) : (s.raise f).fault = some (s.fault.getD f) := rfl
@[simp] theorem raise_log (f : Fault) : (s.raise f).log = s.log := rfl
@[simp] theorem raise_run (f : Fault) : (s.raise f).run = s.run := rfl
@[simp] theorem raise_line (f : Fault) : (s.raise f).line = s.line := rfl
@[simp] theorem raise_phase (f : Fault) : (s.raise f).phase = .idle := rfl
@[simp] theorem raise_intDisable (f : Fault) : (s.raise f).intDisable = s.intDisable := rfl
@[simp] theorem raise_region (f : Fault) : (s.raise f).region = s.region := rfl
@[simp] theorem raise_calls (f : Fault) : (s.raise f).calls = s.calls := rfl
@[simp] theorem raise_outputs (f : Fault) : (s.raise f).outputs = s.outputs ++ [.faulted (s.fault.getD f)] := rfl

/-! ### setReg -/

@[simp] theorem setReg_cfg (x : Reg) (v : Payload) : (s.setReg x v).cfg = s.cfg := rfl
@[simp] theorem setReg_regs (x : Reg) (v : Payload) : (s.setReg x v).regs = s.regs.set x v := rfl
@[simp] theorem setReg_dp (x : Reg) (v : Payload) : (s.setReg x v).dp = s.dp := rfl
@[simp] theorem setReg_clut (x : Reg) (v : Payload) : (s.setReg x v).clut = s.clut := rfl
@[simp] theorem setReg_curpat (x : Reg) (v : Payload) : (s.setReg x v).curpat = s.curpat := rfl
@[simp] theorem setReg_matte (x : Reg) (v : Payload) : (s.setReg x v).matte = s.matte := rfl
@[simp] theorem setReg_mptr (x : Reg) (v : Payload) : (s.setReg x v).mptr = s.mptr := rfl
@[simp] theorem setReg_mlim (x : Reg) (v : Payload) : (s.setReg x v).mlim = s.mlim := rfl
@[simp] theorem setReg_mflag (x : Reg) (v : Payload) : (s.setReg x v).mflag = s.mflag := rfl
@[simp] theorem setReg_carry (x : Reg) (v : Payload) : (s.setReg x v).carry = s.carry := rfl
@[simp] theorem setReg_planes (x : Reg) (v : Payload) : (s.setReg x v).planes = s.planes := rfl
@[simp] theorem setReg_screen (x : Reg) (v : Payload) : (s.setReg x v).screen = s.screen := rfl
@[simp] theorem setReg_bdstrip (x : Reg) (v : Payload) : (s.setReg x v).bdstrip = s.bdstrip := rfl
@[simp] theorem setReg_y (x : Reg) (v : Payload) : (s.setReg x v).y = s.y := rfl
@[simp] theorem setReg_cvis (x : Reg) (v : Payload) : (s.setReg x v).cvis = s.cvis := rfl
@[simp] theorem setReg_ccount (x : Reg) (v : Payload) : (s.setReg x v).ccount = s.ccount := rfl
@[simp] theorem setReg_fault (x : Reg) (v : Payload) : (s.setReg x v).fault = s.fault := rfl
@[simp] theorem setReg_log (x : Reg) (v : Payload) : (s.setReg x v).log = s.log := rfl
@[simp] theorem setReg_run (x : Reg) (v : Payload) : (s.setReg x v).run = s.run := rfl
@[simp] theorem setReg_line (x : Reg) (v : Payload) : (s.setReg x v).line = s.line := rfl
@[simp] theorem setReg_phase (x : Reg) (v : Payload) : (s.setReg x v).phase = s.phase := rfl
@[simp] theorem setReg_intDisable (x : Reg) (v : Payload) : (s.setReg x v).intDisable = s.intDisable := rfl
@[simp] theorem setReg_region (x : Reg) (v : Payload) : (s.setReg x v).region = s.region := rfl
@[simp] theorem setReg_calls (x : Reg) (v : Payload) : (s.setReg x v).calls = s.calls := rfl
@[simp] theorem setReg_outputs (x : Reg) (v : Payload) : (s.setReg x v).outputs = s.outputs := rfl

/-! ### setClut -/

@[simp] theorem setClut_cfg (i : Byte) (v : Payload) : (s.setClut i v).cfg = s.cfg := rfl
@[simp] theorem setClut_regs (i : Byte) (v : Payload) : (s.setClut i v).regs = s.regs := rfl
@[simp] theorem setClut_dp (i : Byte) (v : Payload) : (s.setClut i v).dp = s.dp := rfl
@[simp] theorem setClut_clut (i : Byte) (v : Payload) : (s.setClut i v).clut = s.clut.set i.toNat v i.isLt := rfl
@[simp] theorem setClut_curpat (i : Byte) (v : Payload) : (s.setClut i v).curpat = s.curpat := rfl
@[simp] theorem setClut_matte (i : Byte) (v : Payload) : (s.setClut i v).matte = s.matte := rfl
@[simp] theorem setClut_mptr (i : Byte) (v : Payload) : (s.setClut i v).mptr = s.mptr := rfl
@[simp] theorem setClut_mlim (i : Byte) (v : Payload) : (s.setClut i v).mlim = s.mlim := rfl
@[simp] theorem setClut_mflag (i : Byte) (v : Payload) : (s.setClut i v).mflag = s.mflag := rfl
@[simp] theorem setClut_carry (i : Byte) (v : Payload) : (s.setClut i v).carry = s.carry := rfl
@[simp] theorem setClut_planes (i : Byte) (v : Payload) : (s.setClut i v).planes = s.planes := rfl
@[simp] theorem setClut_screen (i : Byte) (v : Payload) : (s.setClut i v).screen = s.screen := rfl
@[simp] theorem setClut_bdstrip (i : Byte) (v : Payload) : (s.setClut i v).bdstrip = s.bdstrip := rfl
@[simp] theorem setClut_y (i : Byte) (v : Payload) : (s.setClut i v).y = s.y := rfl
@[simp] theorem setClut_cvis (i : Byte) (v : Payload) : (s.setClut i v).cvis = s.cvis := rfl
@[simp] theorem setClut_ccount (i : Byte) (v : Payload) : (s.setClut i v).ccount = s.ccount := rfl
@[simp] theorem setClut_fault (i : Byte) (v : Payload) : (s.setClut i v).fault = s.fault := rfl
@[simp] theorem setClut_log (i : Byte) (v : Payload) : (s.setClut i v).log = s.log := rfl
@[simp] theorem setClut_run (i : Byte) (v : Payload) : (s.setClut i v).run = s.run := rfl
@[simp] theorem setClut_line (i : Byte) (v : Payload) : (s.setClut i v).line = s.line := rfl
@[simp] theorem setClut_phase (i : Byte) (v : Payload) : (s.setClut i v).phase = s.phase := rfl
@[simp] theorem setClut_intDisable (i : Byte) (v : Payload) : (s.setClut i v).intDisable = s.intDisable := rfl
@[simp] theorem setClut_region (i : Byte) (v : Payload) : (s.setClut i v).region = s.region := rfl
@[simp] theorem setClut_calls (i : Byte) (v : Payload) : (s.setClut i v).calls = s.calls := rfl
@[simp] theorem setClut_outputs (i : Byte) (v : Payload) : (s.setClut i v).outputs = s.outputs := rfl

/-! ### setMatte -/

@[simp] theorem setMatte_cfg (i : Fin 8) (v : Payload) : (s.setMatte i v).cfg = s.cfg := rfl
@[simp] theorem setMatte_regs (i : Fin 8) (v : Payload) : (s.setMatte i v).regs = s.regs := rfl
@[simp] theorem setMatte_dp (i : Fin 8) (v : Payload) : (s.setMatte i v).dp = s.dp := rfl
@[simp] theorem setMatte_clut (i : Fin 8) (v : Payload) : (s.setMatte i v).clut = s.clut := rfl
@[simp] theorem setMatte_curpat (i : Fin 8) (v : Payload) : (s.setMatte i v).curpat = s.curpat := rfl
@[simp] theorem setMatte_matte (i : Fin 8) (v : Payload) : (s.setMatte i v).matte = s.matte.set i v := rfl
@[simp] theorem setMatte_mptr (i : Fin 8) (v : Payload) : (s.setMatte i v).mptr = s.mptr := rfl
@[simp] theorem setMatte_mlim (i : Fin 8) (v : Payload) : (s.setMatte i v).mlim = s.mlim := rfl
@[simp] theorem setMatte_mflag (i : Fin 8) (v : Payload) : (s.setMatte i v).mflag = s.mflag := rfl
@[simp] theorem setMatte_carry (i : Fin 8) (v : Payload) : (s.setMatte i v).carry = s.carry := rfl
@[simp] theorem setMatte_planes (i : Fin 8) (v : Payload) : (s.setMatte i v).planes = s.planes := rfl
@[simp] theorem setMatte_screen (i : Fin 8) (v : Payload) : (s.setMatte i v).screen = s.screen := rfl
@[simp] theorem setMatte_bdstrip (i : Fin 8) (v : Payload) : (s.setMatte i v).bdstrip = s.bdstrip := rfl
@[simp] theorem setMatte_y (i : Fin 8) (v : Payload) : (s.setMatte i v).y = s.y := rfl
@[simp] theorem setMatte_cvis (i : Fin 8) (v : Payload) : (s.setMatte i v).cvis = s.cvis := rfl
@[simp] theorem setMatte_ccount (i : Fin 8) (v : Payload) : (s.setMatte i v).ccount = s.ccount := rfl
@[simp] theorem setMatte_fault (i : Fin 8) (v : Payload) : (s.setMatte i v).fault = s.fault := rfl
@[simp] theorem setMatte_log (i : Fin 8) (v : Payload) : (s.setMatte i v).log = s.log := rfl
@[simp] theorem setMatte_run (i : Fin 8) (v : Payload) : (s.setMatte i v).run = s.run := rfl
@[simp] theorem setMatte_line (i : Fin 8) (v : Payload) : (s.setMatte i v).line = s.line := rfl
@[simp] theorem setMatte_phase (i : Fin 8) (v : Payload) : (s.setMatte i v).phase = s.phase := rfl
@[simp] theorem setMatte_intDisable (i : Fin 8) (v : Payload) : (s.setMatte i v).intDisable = s.intDisable := rfl
@[simp] theorem setMatte_region (i : Fin 8) (v : Payload) : (s.setMatte i v).region = s.region := rfl
@[simp] theorem setMatte_calls (i : Fin 8) (v : Payload) : (s.setMatte i v).calls = s.calls := rfl
@[simp] theorem setMatte_outputs (i : Fin 8) (v : Payload) : (s.setMatte i v).outputs = s.outputs := rfl

/-! ### setCurpat -/

@[simp] theorem setCurpat_cfg (r : Fin 16) (v : BitVec 16) : (s.setCurpat r v).cfg = s.cfg := rfl
@[simp] theorem setCurpat_regs (r : Fin 16) (v : BitVec 16) : (s.setCurpat r v).regs = s.regs := rfl
@[simp] theorem setCurpat_dp (r : Fin 16) (v : BitVec 16) : (s.setCurpat r v).dp = s.dp := rfl
@[simp] theorem setCurpat_clut (r : Fin 16) (v : BitVec 16) : (s.setCurpat r v).clut = s.clut := rfl
@[simp] theorem setCurpat_curpat (r : Fin 16) (v : BitVec 16) : (s.setCurpat r v).curpat = s.curpat.set r v := rfl
@[simp] theorem setCurpat_matte (r : Fin 16) (v : BitVec 16) : (s.setCurpat r v).matte = s.matte := rfl
@[simp] theorem setCurpat_mptr (r : Fin 16) (v : BitVec 16) : (s.setCurpat r v).mptr = s.mptr := rfl
@[simp] theorem setCurpat_mlim (r : Fin 16) (v : BitVec 16) : (s.setCurpat r v).mlim = s.mlim := rfl
@[simp] theorem setCurpat_mflag (r : Fin 16) (v : BitVec 16) : (s.setCurpat r v).mflag = s.mflag := rfl
@[simp] theorem setCurpat_carry (r : Fin 16) (v : BitVec 16) : (s.setCurpat r v).carry = s.carry := rfl
@[simp] theorem setCurpat_planes (r : Fin 16) (v : BitVec 16) : (s.setCurpat r v).planes = s.planes := rfl
@[simp] theorem setCurpat_screen (r : Fin 16) (v : BitVec 16) : (s.setCurpat r v).screen = s.screen := rfl
@[simp] theorem setCurpat_bdstrip (r : Fin 16) (v : BitVec 16) : (s.setCurpat r v).bdstrip = s.bdstrip := rfl
@[simp] theorem setCurpat_y (r : Fin 16) (v : BitVec 16) : (s.setCurpat r v).y = s.y := rfl
@[simp] theorem setCurpat_cvis (r : Fin 16) (v : BitVec 16) : (s.setCurpat r v).cvis = s.cvis := rfl
@[simp] theorem setCurpat_ccount (r : Fin 16) (v : BitVec 16) : (s.setCurpat r v).ccount = s.ccount := rfl
@[simp] theorem setCurpat_fault (r : Fin 16) (v : BitVec 16) : (s.setCurpat r v).fault = s.fault := rfl
@[simp] theorem setCurpat_log (r : Fin 16) (v : BitVec 16) : (s.setCurpat r v).log = s.log := rfl
@[simp] theorem setCurpat_run (r : Fin 16) (v : BitVec 16) : (s.setCurpat r v).run = s.run := rfl
@[simp] theorem setCurpat_line (r : Fin 16) (v : BitVec 16) : (s.setCurpat r v).line = s.line := rfl
@[simp] theorem setCurpat_phase (r : Fin 16) (v : BitVec 16) : (s.setCurpat r v).phase = s.phase := rfl
@[simp] theorem setCurpat_intDisable (r : Fin 16) (v : BitVec 16) : (s.setCurpat r v).intDisable = s.intDisable := rfl
@[simp] theorem setCurpat_region (r : Fin 16) (v : BitVec 16) : (s.setCurpat r v).region = s.region := rfl
@[simp] theorem setCurpat_calls (r : Fin 16) (v : BitVec 16) : (s.setCurpat r v).calls = s.calls := rfl
@[simp] theorem setCurpat_outputs (r : Fin 16) (v : BitVec 16) : (s.setCurpat r v).outputs = s.outputs := rfl

/-! ### setDp -/

@[simp] theorem setDp_cfg (p : Plane) (v : DisplayParams) : (s.setDp p v).cfg = s.cfg := rfl
@[simp] theorem setDp_regs (p : Plane) (v : DisplayParams) : (s.setDp p v).regs = s.regs := rfl
@[simp] theorem setDp_dp (p : Plane) (v : DisplayParams) : (s.setDp p v).dp = s.dp.set p v := rfl
@[simp] theorem setDp_clut (p : Plane) (v : DisplayParams) : (s.setDp p v).clut = s.clut := rfl
@[simp] theorem setDp_curpat (p : Plane) (v : DisplayParams) : (s.setDp p v).curpat = s.curpat := rfl
@[simp] theorem setDp_matte (p : Plane) (v : DisplayParams) : (s.setDp p v).matte = s.matte := rfl
@[simp] theorem setDp_mptr (p : Plane) (v : DisplayParams) : (s.setDp p v).mptr = s.mptr := rfl
@[simp] theorem setDp_mlim (p : Plane) (v : DisplayParams) : (s.setDp p v).mlim = s.mlim := rfl
@[simp] theorem setDp_mflag (p : Plane) (v : DisplayParams) : (s.setDp p v).mflag = s.mflag := rfl
@[simp] theorem setDp_carry (p : Plane) (v : DisplayParams) : (s.setDp p v).carry = s.carry := rfl
@[simp] theorem setDp_planes (p : Plane) (v : DisplayParams) : (s.setDp p v).planes = s.planes := rfl
@[simp] theorem setDp_screen (p : Plane) (v : DisplayParams) : (s.setDp p v).screen = s.screen := rfl
@[simp] theorem setDp_bdstrip (p : Plane) (v : DisplayParams) : (s.setDp p v).bdstrip = s.bdstrip := rfl
@[simp] theorem setDp_y (p : Plane) (v : DisplayParams) : (s.setDp p v).y = s.y := rfl
@[simp] theorem setDp_cvis (p : Plane) (v : DisplayParams) : (s.setDp p v).cvis = s.cvis := rfl
@[simp] theorem setDp_ccount (p : Plane) (v : DisplayParams) : (s.setDp p v).ccount = s.ccount := rfl
@[simp] theorem setDp_fault (p : Plane) (v : DisplayParams) : (s.setDp p v).fault = s.fault := rfl
@[simp] theorem setDp_log (p : Plane) (v : DisplayParams) : (s.setDp p v).log = s.log := rfl
@[simp] theorem setDp_run (p : Plane) (v : DisplayParams) : (s.setDp p v).run = s.run := rfl
@[simp] theorem setDp_line (p : Plane) (v : DisplayParams) : (s.setDp p v).line = s.line := rfl
@[simp] theorem setDp_phase (p : Plane) (v : DisplayParams) : (s.setDp p v).phase = s.phase := rfl
@[simp] theorem setDp_intDisable (p : Plane) (v : DisplayParams) : (s.setDp p v).intDisable = s.intDisable := rfl
@[simp] theorem setDp_region (p : Plane) (v : DisplayParams) : (s.setDp p v).region = s.region := rfl
@[simp] theorem setDp_calls (p : Plane) (v : DisplayParams) : (s.setDp p v).calls = s.calls := rfl
@[simp] theorem setDp_outputs (p : Plane) (v : DisplayParams) : (s.setDp p v).outputs = s.outputs := rfl

/-! ### endRun -/

@[simp] theorem endRun_cfg (e : RunEnd) (d : Payload) : (s.endRun e d).cfg = s.cfg := rfl
@[simp] theorem endRun_regs (e : RunEnd) (d : Payload) : (s.endRun e d).regs = s.regs := rfl
@[simp] theorem endRun_dp (e : RunEnd) (d : Payload) : (s.endRun e d).dp = s.dp := rfl
@[simp] theorem endRun_clut (e : RunEnd) (d : Payload) : (s.endRun e d).clut = s.clut := rfl
@[simp] theorem endRun_curpat (e : RunEnd) (d : Payload) : (s.endRun e d).curpat = s.curpat := rfl
@[simp] theorem endRun_matte (e : RunEnd) (d : Payload) : (s.endRun e d).matte = s.matte := rfl
@[simp] theorem endRun_mptr (e : RunEnd) (d : Payload) : (s.endRun e d).mptr = s.mptr := rfl
@[simp] theorem endRun_mlim (e : RunEnd) (d : Payload) : (s.endRun e d).mlim = s.mlim := rfl
@[simp] theorem endRun_mflag (e : RunEnd) (d : Payload) : (s.endRun e d).mflag = s.mflag := rfl
@[simp] theorem endRun_carry (e : RunEnd) (d : Payload) : (s.endRun e d).carry = s.carry := rfl
@[simp] theorem endRun_planes (e : RunEnd) (d : Payload) : (s.endRun e d).planes = s.planes := rfl
@[simp] theorem endRun_screen (e : RunEnd) (d : Payload) : (s.endRun e d).screen = s.screen := rfl
@[simp] theorem endRun_bdstrip (e : RunEnd) (d : Payload) : (s.endRun e d).bdstrip = s.bdstrip := rfl
@[simp] theorem endRun_y (e : RunEnd) (d : Payload) : (s.endRun e d).y = s.y := rfl
@[simp] theorem endRun_cvis (e : RunEnd) (d : Payload) : (s.endRun e d).cvis = s.cvis := rfl
@[simp] theorem endRun_ccount (e : RunEnd) (d : Payload) : (s.endRun e d).ccount = s.ccount := rfl
@[simp] theorem endRun_fault (e : RunEnd) (d : Payload) : (s.endRun e d).fault = s.fault := rfl
@[simp] theorem endRun_log (e : RunEnd) (d : Payload) : (s.endRun e d).log = s.log := rfl
@[simp] theorem endRun_run (e : RunEnd) (d : Payload) : (s.endRun e d).run = s.run := rfl
@[simp] theorem endRun_line (e : RunEnd) (d : Payload) : (s.endRun e d).line = s.line := rfl
@[simp] theorem endRun_phase (e : RunEnd) (d : Payload) : (s.endRun e d).phase = .idle := rfl
@[simp] theorem endRun_intDisable (e : RunEnd) (d : Payload) : (s.endRun e d).intDisable = s.intDisable := rfl
@[simp] theorem endRun_region (e : RunEnd) (d : Payload) : (s.endRun e d).region = s.region := rfl
@[simp] theorem endRun_calls (e : RunEnd) (d : Payload) : (s.endRun e d).calls = s.calls := rfl
@[simp] theorem endRun_outputs (e : RunEnd) (d : Payload) : (s.endRun e d).outputs = s.outputs ++ [.ran ⟨e, d, s.run.irq, s.run.pc, s.run.count⟩] := rfl

/-! ### matteSetFactor -/

@[simp] theorem matteSetFactor_cfg (q : Plane) (f : BitVec 6) : (s.matteSetFactor q f).cfg = s.cfg := rfl
@[simp] theorem matteSetFactor_regs (q : Plane) (f : BitVec 6) : (s.matteSetFactor q f).regs = s.regs.set (.icf q) (f.setWidth 24) := rfl
@[simp] theorem matteSetFactor_dp (q : Plane) (f : BitVec 6) : (s.matteSetFactor q f).dp = s.dp := rfl
@[simp] theorem matteSetFactor_clut (q : Plane) (f : BitVec 6) : (s.matteSetFactor q f).clut = s.clut := rfl
@[simp] theorem matteSetFactor_curpat (q : Plane) (f : BitVec 6) : (s.matteSetFactor q f).curpat = s.curpat := rfl
@[simp] theorem matteSetFactor_matte (q : Plane) (f : BitVec 6) : (s.matteSetFactor q f).matte = s.matte := rfl
@[simp] theorem matteSetFactor_mptr (q : Plane) (f : BitVec 6) : (s.matteSetFactor q f).mptr = s.mptr := rfl
@[simp] theorem matteSetFactor_mlim (q : Plane) (f : BitVec 6) : (s.matteSetFactor q f).mlim = s.mlim := rfl
@[simp] theorem matteSetFactor_mflag (q : Plane) (f : BitVec 6) : (s.matteSetFactor q f).mflag = s.mflag := rfl
@[simp] theorem matteSetFactor_carry (q : Plane) (f : BitVec 6) : (s.matteSetFactor q f).carry = s.carry := rfl
@[simp] theorem matteSetFactor_planes (q : Plane) (f : BitVec 6) : (s.matteSetFactor q f).planes = s.planes := rfl
@[simp] theorem matteSetFactor_screen (q : Plane) (f : BitVec 6) : (s.matteSetFactor q f).screen = s.screen := rfl
@[simp] theorem matteSetFactor_bdstrip (q : Plane) (f : BitVec 6) : (s.matteSetFactor q f).bdstrip = s.bdstrip := rfl
@[simp] theorem matteSetFactor_y (q : Plane) (f : BitVec 6) : (s.matteSetFactor q f).y = s.y := rfl
@[simp] theorem matteSetFactor_cvis (q : Plane) (f : BitVec 6) : (s.matteSetFactor q f).cvis = s.cvis := rfl
@[simp] theorem matteSetFactor_ccount (q : Plane) (f : BitVec 6) : (s.matteSetFactor q f).ccount = s.ccount := rfl
@[simp] theorem matteSetFactor_fault (q : Plane) (f : BitVec 6) : (s.matteSetFactor q f).fault = s.fault := rfl
@[simp] theorem matteSetFactor_log (q : Plane) (f : BitVec 6) : (s.matteSetFactor q f).log = s.log := rfl
@[simp] theorem matteSetFactor_run (q : Plane) (f : BitVec 6) : (s.matteSetFactor q f).run = s.run := rfl
@[simp] theorem matteSetFactor_line (q : Plane) (f : BitVec 6) : (s.matteSetFactor q f).line = s.line := rfl
@[simp] theorem matteSetFactor_phase (q : Plane) (f : BitVec 6) : (s.matteSetFactor q f).phase = s.phase := rfl
@[simp] theorem matteSetFactor_intDisable (q : Plane) (f : BitVec 6) : (s.matteSetFactor q f).intDisable = s.intDisable := rfl
@[simp] theorem matteSetFactor_region (q : Plane) (f : BitVec 6) : (s.matteSetFactor q f).region = s.region := rfl
@[simp] theorem matteSetFactor_calls (q : Plane) (f : BitVec 6) : (s.matteSetFactor q f).calls = s.calls := rfl
@[simp] theorem matteSetFactor_outputs (q : Plane) (f : BitVec 6) : (s.matteSetFactor q f).outputs = s.outputs := rfl

/-! ### matteSetFlag -/

@[simp] theorem matteSetFlag_cfg (mf : BitVec 1) (v : Bool) : (s.matteSetFlag mf v).cfg = s.cfg := rfl
@[simp] theorem matteSetFlag_regs (mf : BitVec 1) (v : Bool) : (s.matteSetFlag mf v).regs = s.regs := rfl
@[simp] theorem matteSetFlag_dp (mf : BitVec 1) (v : Bool) : (s.matteSetFlag mf v).dp = s.dp := rfl
@[simp] theorem matteSetFlag_clut (mf : BitVec 1) (v : Bool) : (s.matteSetFlag mf v).clut = s.clut := rfl
@[simp] theorem matteSetFlag_curpat (mf : BitVec 1) (v : Bool) : (s.matteSetFlag mf v).curpat = s.curpat := rfl
@[simp] theorem matteSetFlag_matte (mf : BitVec 1) (v : Bool) : (s.matteSetFlag mf v).matte = s.matte := rfl
@[simp] theorem matteSetFlag_mptr (mf : BitVec 1) (v : Bool) : (s.matteSetFlag mf v).mptr = s.mptr := rfl
@[simp] theorem matteSetFlag_mlim (mf : BitVec 1) (v : Bool) : (s.matteSetFlag mf v).mlim = s.mlim := rfl
@[simp] theorem matteSetFlag_mflag (mf : BitVec 1) (v : Bool) : (s.matteSetFlag mf v).mflag = s.mflag.set s.line.plane ((s.mflag.get s.line.plane).set mf v) := rfl
@[simp] theorem matteSetFlag_carry (mf : BitVec 1) (v : Bool) : (s.matteSetFlag mf v).carry = s.carry := rfl
@[simp] theorem matteSetFlag_planes (mf : BitVec 1) (v : Bool) : (s.matteSetFlag mf v).planes = s.planes := rfl
@[simp] theorem matteSetFlag_screen (mf : BitVec 1) (v : Bool) : (s.matteSetFlag mf v).screen = s.screen := rfl
@[simp] theorem matteSetFlag_bdstrip (mf : BitVec 1) (v : Bool) : (s.matteSetFlag mf v).bdstrip = s.bdstrip := rfl
@[simp] theorem matteSetFlag_y (mf : BitVec 1) (v : Bool) : (s.matteSetFlag mf v).y = s.y := rfl
@[simp] theorem matteSetFlag_cvis (mf : BitVec 1) (v : Bool) : (s.matteSetFlag mf v).cvis = s.cvis := rfl
@[simp] theorem matteSetFlag_ccount (mf : BitVec 1) (v : Bool) : (s.matteSetFlag mf v).ccount = s.ccount := rfl
@[simp] theorem matteSetFlag_fault (mf : BitVec 1) (v : Bool) : (s.matteSetFlag mf v).fault = s.fault := rfl
@[simp] theorem matteSetFlag_log (mf : BitVec 1) (v : Bool) : (s.matteSetFlag mf v).log = s.log := rfl
@[simp] theorem matteSetFlag_run (mf : BitVec 1) (v : Bool) : (s.matteSetFlag mf v).run = s.run := rfl
@[simp] theorem matteSetFlag_line (mf : BitVec 1) (v : Bool) : (s.matteSetFlag mf v).line = s.line := rfl
@[simp] theorem matteSetFlag_phase (mf : BitVec 1) (v : Bool) : (s.matteSetFlag mf v).phase = s.phase := rfl
@[simp] theorem matteSetFlag_intDisable (mf : BitVec 1) (v : Bool) : (s.matteSetFlag mf v).intDisable = s.intDisable := rfl
@[simp] theorem matteSetFlag_region (mf : BitVec 1) (v : Bool) : (s.matteSetFlag mf v).region = s.region := rfl
@[simp] theorem matteSetFlag_calls (mf : BitVec 1) (v : Bool) : (s.matteSetFlag mf v).calls = s.calls := rfl
@[simp] theorem matteSetFlag_outputs (mf : BitVec 1) (v : Bool) : (s.matteSetFlag mf v).outputs = s.outputs := rfl

/-! ### matteAdvance -/

@[simp] theorem matteAdvance_cfg : (s.matteAdvance).cfg = s.cfg := rfl
@[simp] theorem matteAdvance_regs : (s.matteAdvance).regs = s.regs := rfl
@[simp] theorem matteAdvance_dp : (s.matteAdvance).dp = s.dp := rfl
@[simp] theorem matteAdvance_clut : (s.matteAdvance).clut = s.clut := rfl
@[simp] theorem matteAdvance_curpat : (s.matteAdvance).curpat = s.curpat := rfl
@[simp] theorem matteAdvance_matte : (s.matteAdvance).matte = s.matte := rfl
@[simp] theorem matteAdvance_mptr : (s.matteAdvance).mptr = s.mptr.set s.line.plane ((s.mptr.get s.line.plane).bind (nextMatte (s.mlim.get s.line.plane))) := rfl
@[simp] theorem matteAdvance_mlim : (s.matteAdvance).mlim = s.mlim := rfl
@[simp] theorem matteAdvance_mflag : (s.matteAdvance).mflag = s.mflag := rfl
@[simp] theorem matteAdvance_carry : (s.matteAdvance).carry = s.carry := rfl
@[simp] theorem matteAdvance_planes : (s.matteAdvance).planes = s.planes := rfl
@[simp] theorem matteAdvance_screen : (s.matteAdvance).screen = s.screen := rfl
@[simp] theorem matteAdvance_bdstrip : (s.matteAdvance).bdstrip = s.bdstrip := rfl
@[simp] theorem matteAdvance_y : (s.matteAdvance).y = s.y := rfl
@[simp] theorem matteAdvance_cvis : (s.matteAdvance).cvis = s.cvis := rfl
@[simp] theorem matteAdvance_ccount : (s.matteAdvance).ccount = s.ccount := rfl
@[simp] theorem matteAdvance_fault : (s.matteAdvance).fault = s.fault := rfl
@[simp] theorem matteAdvance_log : (s.matteAdvance).log = s.log := rfl
@[simp] theorem matteAdvance_run : (s.matteAdvance).run = s.run := rfl
@[simp] theorem matteAdvance_line : (s.matteAdvance).line = s.line := rfl
@[simp] theorem matteAdvance_phase : (s.matteAdvance).phase = s.phase := rfl
@[simp] theorem matteAdvance_intDisable : (s.matteAdvance).intDisable = s.intDisable := rfl
@[simp] theorem matteAdvance_region : (s.matteAdvance).region = s.region := rfl
@[simp] theorem matteAdvance_calls : (s.matteAdvance).calls = s.calls := rfl
@[simp] theorem matteAdvance_outputs : (s.matteAdvance).outputs = s.outputs := rfl

/-! ### writeByte -/

@[simp] theorem writeByte_cfg (a : Nat) (v : Byte) : (s.writeByte a v).cfg = s.cfg := rfl
@[simp] theorem writeByte_regs (a : Nat) (v : Byte) : (s.writeByte a v).regs = s.regs := rfl
@[simp] theorem writeByte_dp (a : Nat) (v : Byte) : (s.writeByte a v).dp = s.dp := rfl
@[simp] theorem writeByte_clut (a : Nat) (v : Byte) : (s.writeByte a v).clut = s.clut := rfl
@[simp] theorem writeByte_curpat (a : Nat) (v : Byte) : (s.writeByte a v).curpat = s.curpat := rfl
@[simp] theorem writeByte_matte (a : Nat) (v : Byte) : (s.writeByte a v).matte = s.matte := rfl
@[simp] theorem writeByte_mptr (a : Nat) (v : Byte) : (s.writeByte a v).mptr = s.mptr := rfl
@[simp] theorem writeByte_mlim (a : Nat) (v : Byte) : (s.writeByte a v).mlim = s.mlim := rfl
@[simp] theorem writeByte_mflag (a : Nat) (v : Byte) : (s.writeByte a v).mflag = s.mflag := rfl
@[simp] theorem writeByte_carry (a : Nat) (v : Byte) : (s.writeByte a v).carry = s.carry := rfl
@[simp] theorem writeByte_planes (a : Nat) (v : Byte) : (s.writeByte a v).planes = s.planes := rfl
@[simp] theorem writeByte_screen (a : Nat) (v : Byte) : (s.writeByte a v).screen = s.screen := rfl
@[simp] theorem writeByte_bdstrip (a : Nat) (v : Byte) : (s.writeByte a v).bdstrip = s.bdstrip := rfl
@[simp] theorem writeByte_y (a : Nat) (v : Byte) : (s.writeByte a v).y = s.y := rfl
@[simp] theorem writeByte_cvis (a : Nat) (v : Byte) : (s.writeByte a v).cvis = s.cvis := rfl
@[simp] theorem writeByte_ccount (a : Nat) (v : Byte) : (s.writeByte a v).ccount = s.ccount := rfl
@[simp] theorem writeByte_fault (a : Nat) (v : Byte) : (s.writeByte a v).fault = s.fault := rfl
@[simp] theorem writeByte_log (a : Nat) (v : Byte) : (s.writeByte a v).log = s.log := rfl
@[simp] theorem writeByte_run (a : Nat) (v : Byte) : (s.writeByte a v).run = s.run := rfl
@[simp] theorem writeByte_line (a : Nat) (v : Byte) : (s.writeByte a v).line = s.line := rfl
@[simp] theorem writeByte_phase (a : Nat) (v : Byte) : (s.writeByte a v).phase = s.phase := rfl
@[simp] theorem writeByte_intDisable (a : Nat) (v : Byte) : (s.writeByte a v).intDisable = s.intDisable := rfl
@[simp] theorem writeByte_region (a : Nat) (v : Byte) : (s.writeByte a v).region = regionWrite s.region (a % s.cfg.regionSize) v := rfl
@[simp] theorem writeByte_calls (a : Nat) (v : Byte) : (s.writeByte a v).calls = s.calls := rfl
@[simp] theorem writeByte_outputs (a : Nat) (v : Byte) : (s.writeByte a v).outputs = s.outputs := rfl

/-! ### startRun -/

@[simp] theorem startRun_cfg (ch : Channel) (a : Word) (n : Nat) : (s.startRun ch a n).cfg = s.cfg := rfl
@[simp] theorem startRun_regs (ch : Channel) (a : Word) (n : Nat) : (s.startRun ch a n).regs = s.regs := rfl
@[simp] theorem startRun_dp (ch : Channel) (a : Word) (n : Nat) : (s.startRun ch a n).dp = s.dp := rfl
@[simp] theorem startRun_clut (ch : Channel) (a : Word) (n : Nat) : (s.startRun ch a n).clut = s.clut := rfl
@[simp] theorem startRun_curpat (ch : Channel) (a : Word) (n : Nat) : (s.startRun ch a n).curpat = s.curpat := rfl
@[simp] theorem startRun_matte (ch : Channel) (a : Word) (n : Nat) : (s.startRun ch a n).matte = s.matte := rfl
@[simp] theorem startRun_mptr (ch : Channel) (a : Word) (n : Nat) : (s.startRun ch a n).mptr = s.mptr := rfl
@[simp] theorem startRun_mlim (ch : Channel) (a : Word) (n : Nat) : (s.startRun ch a n).mlim = s.mlim := rfl
@[simp] theorem startRun_mflag (ch : Channel) (a : Word) (n : Nat) : (s.startRun ch a n).mflag = s.mflag := rfl
@[simp] theorem startRun_carry (ch : Channel) (a : Word) (n : Nat) : (s.startRun ch a n).carry = s.carry := rfl
@[simp] theorem startRun_planes (ch : Channel) (a : Word) (n : Nat) : (s.startRun ch a n).planes = s.planes := rfl
@[simp] theorem startRun_screen (ch : Channel) (a : Word) (n : Nat) : (s.startRun ch a n).screen = s.screen := rfl
@[simp] theorem startRun_bdstrip (ch : Channel) (a : Word) (n : Nat) : (s.startRun ch a n).bdstrip = s.bdstrip := rfl
@[simp] theorem startRun_y (ch : Channel) (a : Word) (n : Nat) : (s.startRun ch a n).y = s.y := rfl
@[simp] theorem startRun_cvis (ch : Channel) (a : Word) (n : Nat) : (s.startRun ch a n).cvis = s.cvis := rfl
@[simp] theorem startRun_ccount (ch : Channel) (a : Word) (n : Nat) : (s.startRun ch a n).ccount = s.ccount := rfl
@[simp] theorem startRun_fault (ch : Channel) (a : Word) (n : Nat) : (s.startRun ch a n).fault = s.fault := rfl
@[simp] theorem startRun_log (ch : Channel) (a : Word) (n : Nat) : (s.startRun ch a n).log = s.log := rfl
@[simp] theorem startRun_run (ch : Channel) (a : Word) (n : Nat) : (s.startRun ch a n).run = ⟨ch, a, n, 0, false⟩ := rfl
@[simp] theorem startRun_line (ch : Channel) (a : Word) (n : Nat) : (s.startRun ch a n).line = s.line := rfl
@[simp] theorem startRun_phase (ch : Channel) (a : Word) (n : Nat) : (s.startRun ch a n).phase = .run := rfl
@[simp] theorem startRun_intDisable (ch : Channel) (a : Word) (n : Nat) : (s.startRun ch a n).intDisable = s.intDisable := rfl
@[simp] theorem startRun_region (ch : Channel) (a : Word) (n : Nat) : (s.startRun ch a n).region = s.region := rfl
@[simp] theorem startRun_calls (ch : Channel) (a : Word) (n : Nat) : (s.startRun ch a n).calls = s.calls := rfl
@[simp] theorem startRun_outputs (ch : Channel) (a : Word) (n : Nat) : (s.startRun ch a n).outputs = s.outputs := rfl

/-! ### afterFetch -/

@[simp] theorem afterFetch_cfg : (s.afterFetch).cfg = s.cfg := rfl
@[simp] theorem afterFetch_regs : (s.afterFetch).regs = s.regs := rfl
@[simp] theorem afterFetch_dp : (s.afterFetch).dp = s.dp := rfl
@[simp] theorem afterFetch_clut : (s.afterFetch).clut = s.clut := rfl
@[simp] theorem afterFetch_curpat : (s.afterFetch).curpat = s.curpat := rfl
@[simp] theorem afterFetch_matte : (s.afterFetch).matte = s.matte := rfl
@[simp] theorem afterFetch_mptr : (s.afterFetch).mptr = s.mptr := rfl
@[simp] theorem afterFetch_mlim : (s.afterFetch).mlim = s.mlim := rfl
@[simp] theorem afterFetch_mflag : (s.afterFetch).mflag = s.mflag := rfl
@[simp] theorem afterFetch_carry : (s.afterFetch).carry = s.carry := rfl
@[simp] theorem afterFetch_planes : (s.afterFetch).planes = s.planes := rfl
@[simp] theorem afterFetch_screen : (s.afterFetch).screen = s.screen := rfl
@[simp] theorem afterFetch_bdstrip : (s.afterFetch).bdstrip = s.bdstrip := rfl
@[simp] theorem afterFetch_y : (s.afterFetch).y = s.y := rfl
@[simp] theorem afterFetch_cvis : (s.afterFetch).cvis = s.cvis := rfl
@[simp] theorem afterFetch_ccount : (s.afterFetch).ccount = s.ccount := rfl
@[simp] theorem afterFetch_fault : (s.afterFetch).fault = s.fault := rfl
@[simp] theorem afterFetch_log : (s.afterFetch).log = s.log := rfl
@[simp] theorem afterFetch_run : (s.afterFetch).run = { s.run with pc := BitVec.ofNat 32 ((s.run.pc.toNat + 4) % s.cfg.regionSize), count := s.run.count + 1 } := rfl
@[simp] theorem afterFetch_line : (s.afterFetch).line = s.line := rfl
@[simp] theorem afterFetch_phase : (s.afterFetch).phase = s.phase := rfl
@[simp] theorem afterFetch_intDisable : (s.afterFetch).intDisable = s.intDisable := rfl
@[simp] theorem afterFetch_region : (s.afterFetch).region = s.region := rfl
@[simp] theorem afterFetch_calls : (s.afterFetch).calls = s.calls := rfl
@[simp] theorem afterFetch_outputs : (s.afterFetch).outputs = s.outputs := rfl

/-! ### resolve -/

@[simp] theorem resolve_cfg (p : Plane) (x : Nat) : (s.resolve p x).cfg = s.cfg := rfl
@[simp] theorem resolve_regs (p : Plane) (x : Nat) : (s.resolve p x).regs = s.regs := rfl
@[simp] theorem resolve_dp (p : Plane) (x : Nat) : (s.resolve p x).dp = s.dp := rfl
@[simp] theorem resolve_clut (p : Plane) (x : Nat) : (s.resolve p x).clut = s.clut := rfl
@[simp] theorem resolve_curpat (p : Plane) (x : Nat) : (s.resolve p x).curpat = s.curpat := rfl
@[simp] theorem resolve_matte (p : Plane) (x : Nat) : (s.resolve p x).matte = s.matte := rfl
@[simp] theorem resolve_mptr (p : Plane) (x : Nat) : (s.resolve p x).mptr = s.mptr := rfl
@[simp] theorem resolve_mlim (p : Plane) (x : Nat) : (s.resolve p x).mlim = s.mlim := rfl
@[simp] theorem resolve_mflag (p : Plane) (x : Nat) : (s.resolve p x).mflag = s.mflag := rfl
@[simp] theorem resolve_carry (p : Plane) (x : Nat) : (s.resolve p x).carry = s.carry := rfl
@[simp] theorem resolve_planes (p : Plane) (x : Nat) : (s.resolve p x).planes = s.planes.set p (Grid.write s.cfg.width (s.planes.get p) s.y x (s.resolvedPx p x)) := rfl
@[simp] theorem resolve_screen (p : Plane) (x : Nat) : (s.resolve p x).screen = s.screen := rfl
@[simp] theorem resolve_bdstrip (p : Plane) (x : Nat) : (s.resolve p x).bdstrip = s.bdstrip := rfl
@[simp] theorem resolve_y (p : Plane) (x : Nat) : (s.resolve p x).y = s.y := rfl
@[simp] theorem resolve_cvis (p : Plane) (x : Nat) : (s.resolve p x).cvis = s.cvis := rfl
@[simp] theorem resolve_ccount (p : Plane) (x : Nat) : (s.resolve p x).ccount = s.ccount := rfl
@[simp] theorem resolve_fault (p : Plane) (x : Nat) : (s.resolve p x).fault = s.fault := rfl
@[simp] theorem resolve_log (p : Plane) (x : Nat) : (s.resolve p x).log = s.log := rfl
@[simp] theorem resolve_run (p : Plane) (x : Nat) : (s.resolve p x).run = s.run := rfl
@[simp] theorem resolve_line (p : Plane) (x : Nat) : (s.resolve p x).line = s.line := rfl
@[simp] theorem resolve_phase (p : Plane) (x : Nat) : (s.resolve p x).phase = s.phase := rfl
@[simp] theorem resolve_intDisable (p : Plane) (x : Nat) : (s.resolve p x).intDisable = s.intDisable := rfl
@[simp] theorem resolve_region (p : Plane) (x : Nat) : (s.resolve p x).region = s.region := rfl
@[simp] theorem resolve_calls (p : Plane) (x : Nat) : (s.resolve p x).calls = s.calls := rfl
@[simp] theorem resolve_outputs (p : Plane) (x : Nat) : (s.resolve p x).outputs = s.outputs := rfl

/-! ### composite -/

@[simp] theorem composite_cfg (x : Nat) : (s.composite x).cfg = s.cfg := rfl
@[simp] theorem composite_regs (x : Nat) : (s.composite x).regs = s.regs := rfl
@[simp] theorem composite_dp (x : Nat) : (s.composite x).dp = s.dp := rfl
@[simp] theorem composite_clut (x : Nat) : (s.composite x).clut = s.clut := rfl
@[simp] theorem composite_curpat (x : Nat) : (s.composite x).curpat = s.curpat := rfl
@[simp] theorem composite_matte (x : Nat) : (s.composite x).matte = s.matte := rfl
@[simp] theorem composite_mptr (x : Nat) : (s.composite x).mptr = s.mptr := rfl
@[simp] theorem composite_mlim (x : Nat) : (s.composite x).mlim = s.mlim := rfl
@[simp] theorem composite_mflag (x : Nat) : (s.composite x).mflag = s.mflag := rfl
@[simp] theorem composite_carry (x : Nat) : (s.composite x).carry = s.carry := rfl
@[simp] theorem composite_planes (x : Nat) : (s.composite x).planes = s.planes := rfl
@[simp] theorem composite_screen (x : Nat) : (s.composite x).screen = Grid.write s.cfg.width s.screen s.y x (if tcMix s.cfg.fields (s.reg .tc) then s.mix x else s.overlay x) := rfl
@[simp] theorem composite_bdstrip (x : Nat) : (s.composite x).bdstrip = s.bdstrip := rfl
@[simp] theorem composite_y (x : Nat) : (s.composite x).y = s.y := rfl
@[simp] theorem composite_cvis (x : Nat) : (s.composite x).cvis = s.cvis := rfl
@[simp] theorem composite_ccount (x : Nat) : (s.composite x).ccount = s.ccount := rfl
@[simp] theorem composite_fault (x : Nat) : (s.composite x).fault = s.fault := rfl
@[simp] theorem composite_log (x : Nat) : (s.composite x).log = s.log := rfl
@[simp] theorem composite_run (x : Nat) : (s.composite x).run = s.run := rfl
@[simp] theorem composite_line (x : Nat) : (s.composite x).line = s.line := rfl
@[simp] theorem composite_phase (x : Nat) : (s.composite x).phase = s.phase := rfl
@[simp] theorem composite_intDisable (x : Nat) : (s.composite x).intDisable = s.intDisable := rfl
@[simp] theorem composite_region (x : Nat) : (s.composite x).region = s.region := rfl
@[simp] theorem composite_calls (x : Nat) : (s.composite x).calls = s.calls := rfl
@[simp] theorem composite_outputs (x : Nat) : (s.composite x).outputs = s.outputs := rfl

end Sys2Proof.Machine
end

