-- ==== Sys2Proof/Laws/Buffers.lean ====
section
/-! SUPPORT. The pixel buffers: what a line and a pixel read as after a write. -/

namespace Sys2Proof.Machine

@[simp] theorem padGet_nil {α : Type} (b : α) (i : Nat) : padGet b [] i = b := rfl

@[simp] theorem padGet_cons_zero {α : Type} (b x : α) (l : List α) : padGet b (x :: l) 0 = x := rfl

@[simp] theorem padGet_cons_succ {α : Type} (b x : α) (l : List α) (i : Nat) :
    padGet b (x :: l) (i + 1) = padGet b l i := by
  simp [padGet]

/-- Read after write in a padded list. -/
theorem padGet_padSet {α : Type} (b : α) : ∀ (l : List α) (i j : Nat) (v : α),
    padGet b (padSet b l i v) j = if j = i then v else padGet b l j
  | [], 0, 0, v => by simp [padSet]
  | [], 0, j + 1, v => by simp [padSet]
  | [], i + 1, 0, v => by simp [padSet]
  | [], i + 1, j + 1, v => by simp [padSet, padGet_padSet b [] i j v]
  | x :: l, 0, 0, v => by simp [padSet]
  | x :: l, 0, j + 1, v => by simp [padSet]
  | x :: l, i + 1, 0, v => by simp [padSet]
  | x :: l, i + 1, j + 1, v => by simp [padSet, padGet_padSet b l i j v]

/-- The entries of a padded list after a write: the new value, the blank, or an old entry. -/
theorem mem_padSet {α : Type} (b : α) : ∀ (l : List α) (i : Nat) (v x : α),
    x ∈ padSet b l i v → x = v ∨ x = b ∨ x ∈ l
  | [], 0, v, x, h => by simp_all [padSet]
  | [], i + 1, v, x, h => by
    simp only [padSet, List.mem_cons] at h
    rcases h with h | h
    · exact .inr (.inl h)
    · rcases mem_padSet b [] i v x h with h | h | h
      · exact .inl h
      · exact .inr (.inl h)
      · cases h
  | y :: l, 0, v, x, h => by
    simp only [padSet, List.mem_cons] at h ⊢
    tauto
  | y :: l, i + 1, v, x, h => by
    simp only [padSet, List.mem_cons] at h ⊢
    rcases h with h | h
    · exact .inr (.inr (.inl h))
    · rcases mem_padSet b l i v x h with h | h | h <;> tauto

/-- An entry of a list, or the blank. -/
theorem padGet_mem {α : Type} (b : α) (l : List α) (i : Nat) : padGet b l i = b ∨ padGet b l i ∈ l := by
  unfold padGet
  cases h : l[i]? with
  | none => exact .inl rfl
  | some x => exact .inr (List.mem_of_getElem? h)

@[simp] theorem length_blankLine (w : Nat) : (blankLine w).length = w := by simp [blankLine]

/-- A buffer whose lines are all `w` wide. -/
def GridWide (w : Nat) (g : Grid) : Prop := ∀ l : Line, l ∈ g → l.length = w

theorem lineAt_length {w : Nat} {g : Grid} (h : GridWide w g) (y : Nat) : (Grid.lineAt w g y).length = w := by
  rcases padGet_mem (blankLine w) g y with e | e
  · rw [Grid.lineAt, e, length_blankLine]
  · exact h _ e

theorem write_wide {w : Nat} {g : Grid} (h : GridWide w g) (y x : Nat) (px : Px) :
    GridWide w (Grid.write w g y x px) := by
  intro l hl
  rcases mem_padSet _ _ _ _ _ hl with e | e | e
  · rw [e, List.length_set, lineAt_length h]
  · rw [e, length_blankLine]
  · exact h l e

/-- Read after write of a pixel within the width. -/
theorem pixelAt_write {w : Nat} {g : Grid} (h : GridWide w g) (y x y' x' : Nat) (px : Px) (hx : x < w) :
    Grid.pixelAt w (Grid.write w g y x px) y' x' =
      if y' = y ∧ x' = x then px else Grid.pixelAt w g y' x' := by
  unfold Grid.pixelAt Grid.write Grid.lineAt
  rw [padGet_padSet]
  by_cases hy : y' = y
  · subst hy
    have hlen := lineAt_length h y'
    unfold Grid.lineAt at hlen
    by_cases hxx : x' = x
    · subst hxx
      have hl : x' < (g[y']?.getD (blankLine w)).length := by rw [← padGet, hlen]; exact hx
      simp [padGet, hl]
    · simp [hxx, padGet, Ne.symm hxx]
  · simp [hy]

/-- A write of one column leaves every other column alone, whatever the widths. -/
theorem pixelAt_write_other {w : Nat} {g : Grid} (y x y' x' : Nat) (px : Px) (hne : ¬(y' = y ∧ x' = x)) :
    Grid.pixelAt w (Grid.write w g y x px) y' x' = Grid.pixelAt w g y' x' := by
  unfold Grid.pixelAt Grid.write Grid.lineAt
  rw [padGet_padSet]
  by_cases hy : y' = y
  · subst hy
    have hxx : x ≠ x' := fun e => hne ⟨rfl, e.symm⟩
    simp [padGet, hxx]
  · simp [hy]

end Sys2Proof.Machine
end

