-- ==== Sys2Proof/Laws/Registers.lean ====
section
/-! SUPPORT. Reading back what was written: planes, registers, tables, display parameters, matte flags. -/

namespace Sys2Proof

@[simp] theorem AB.get_set_same {α : Type} (v : AB α) (p : Plane) (x : α) : (v.set p x).get p = x := by
  cases p <;> rfl

theorem AB.get_set_other {α : Type} (v : AB α) {p q : Plane} (x : α) (h : q ≠ p) : (v.set p x).get q = v.get q := by
  cases p <;> cases q <;> first | rfl | exact absurd rfl h

theorem AB.get_set {α : Type} (v : AB α) (p q : Plane) (x : α) :
    (v.set p x).get q = if q = p then x else v.get q := by
  cases p <;> cases q <;> rfl

namespace Machine

@[simp] theorem otherPlane_ne (p : Plane) : otherPlane p ≠ p := by cases p <;> decide

@[simp] theorem Regs.get_set_same (r : Regs) (x : Reg) (v : Payload) : (r.set x v).get x = v := by
  cases x <;> simp [Regs.set, Regs.get]

theorem Regs.get_set_other (r : Regs) {x z : Reg} (v : Payload) (h : z ≠ x) : (r.set x v).get z = r.get z := by
  cases x <;> cases z <;> simp_all [Regs.set, Regs.get, AB.get_set]

@[simp] theorem reg_setReg_same (s : State) (x : Reg) (v : Payload) : (s.setReg x v).reg x = v :=
  Regs.get_set_same s.regs x v

theorem reg_setReg_other (s : State) {x z : Reg} (v : Payload) (h : z ≠ x) : (s.setReg x v).reg z = s.reg z :=
  Regs.get_set_other s.regs v h

/-- A state that differs from another outside the control registers reads the same registers. -/
theorem reg_congr {s t : State} (h : t.regs = s.regs) (x : Reg) : t.reg x = s.reg x := by
  simp [State.reg, h]

@[simp] theorem clutAt_setClut_same (s : State) (i : Byte) (v : Payload) : (s.setClut i v).clutAt i = v := by
  simp [State.clutAt, State.setClut]

theorem clutAt_setClut_other (s : State) {i j : Byte} (v : Payload) (h : j ≠ i) :
    (s.setClut i v).clutAt j = s.clutAt j := by
  have hn : i.toNat ≠ j.toNat := fun e => h (BitVec.eq_of_toNat_eq e.symm)
  simp only [State.clutAt, State.setClut]
  exact Vector.getElem_set_ne i.isLt j.isLt hn

@[simp] theorem matteAt_setMatte_same (s : State) (i : Fin 8) (v : Payload) : (s.setMatte i v).matteAt i = v := by
  simp [State.matteAt, State.setMatte]

theorem matteAt_setMatte_other (s : State) {i j : Fin 8} (v : Payload) (h : j ≠ i) :
    (s.setMatte i v).matteAt j = s.matteAt j := by
  have hn : i.val ≠ j.val := fun e => h (Fin.ext e.symm)
  simp only [State.matteAt, State.setMatte, Fin.getElem_fin]
  exact Vector.getElem_set_ne i.isLt j.isLt hn

@[simp] theorem curpatAt_setCurpat_same (s : State) (i : Fin 16) (v : BitVec 16) :
    (s.setCurpat i v).curpatAt i = v := by
  simp [State.curpatAt, State.setCurpat]

theorem curpatAt_setCurpat_other (s : State) {i j : Fin 16} (v : BitVec 16) (h : j ≠ i) :
    (s.setCurpat i v).curpatAt j = s.curpatAt j := by
  have hn : i.val ≠ j.val := fun e => h (Fin.ext e.symm)
  simp only [State.curpatAt, State.setCurpat, Fin.getElem_fin]
  exact Vector.getElem_set_ne i.isLt j.isLt hn

@[simp] theorem FlagPair.get_set_same (f : FlagPair) (i : BitVec 1) (v : Bool) : (f.set i v).get i = v := by
  unfold FlagPair.set FlagPair.get; split <;> rfl

theorem FlagPair.get_set_other (f : FlagPair) {i j : BitVec 1} (v : Bool) (h : j ≠ i) :
    (f.set i v).get j = f.get j := by
  have hb : ∀ a b : BitVec 1, b ≠ a → (a = 0#1 ∧ b ≠ 0#1) ∨ (a ≠ 0#1 ∧ b = 0#1) := by decide
  rcases hb i j h with ⟨h1, h2⟩ | ⟨h1, h2⟩ <;> simp [FlagPair.set, FlagPair.get, h1, h2]

/-- What the pointer does after an entry below its limit (42 R219): it stays below the limit or becomes END. -/
theorem nextMatte_lt {lim : MatteLimit} {i j : Fin 8} (hi : i.val < lim.val) (h : nextMatte lim i = some j) :
    j.val = i.val + 1 ∧ j.val < lim.val := by
  unfold nextMatte at h
  split at h
  · cases h
  · split at h
    · cases h; exact ⟨rfl, by simp only; omega⟩
    · cases h

theorem nextMatte_val {lim : MatteLimit} {i : Fin 8} (hi : i.val < lim.val) :
    (nextMatte lim i).map Fin.val = if i.val + 1 = lim.val then none else some (i.val + 1) := by
  have : lim.val ≤ 8 := by cases lim <;> decide
  unfold nextMatte
  split
  · rfl
  · rw [dif_pos (by omega)]; rfl

end Machine

end Sys2Proof
end

