-- ==== Sys2Proof/Laws/Decoders.lean ====
section
/-! SUPPORT. The line decoders: the length of what each gives, and the run-length items. -/

namespace Sys2Proof.Machine

/-- The line width is a positive multiple of 4 (00_scope R7). -/
theorem Config.width_eq (c : Config) : c.width = 4 * (c.widthQuads + 1) := rfl

@[simp] theorem length_spread (dup : Bool) (px : Line) :
    (spread dup px).length = if dup then 2 * px.length else px.length := by
  cases dup
  · rfl
  · simp [spread, List.length_flatMap, Nat.mul_comm]

/-- Pixel `x` of a spread line is the decoded pixel `x`, or `x / 2` with duplication (41 R161). -/
theorem spread_getElem? (dup : Bool) (px : Line) (x : Nat) :
    (spread dup px)[x]? = px[if dup then x / 2 else x]? := by
  cases dup
  · rfl
  · simp only [spread, if_true]
    induction px generalizing x with
    | nil => simp
    | cons a l ih =>
      match x with
      | 0 => simp
      | 1 => simp
      | x + 2 => simpa using ih x

/-- Twice the decode width with duplication, or once without it, fills the line (41 R160, R161). -/
theorem decodeWidth_fills (s : State) (p : Plane) :
    (if s.dup p then 2 * s.decodeWidth p else s.decodeWidth p) = s.cfg.width := by
  have := Config.width_eq s.cfg
  unfold State.decodeWidth
  cases s.dup p
  · simp
  · simp; omega

/-- The decode width is even and positive. -/
theorem decodeWidth_even (s : State) (p : Plane) : 2 * (s.decodeWidth p / 2) = s.decodeWidth p ∧ 2 ≤ s.decodeWidth p := by
  have := Config.width_eq s.cfg
  unfold State.decodeWidth
  cases s.dup p <;> simp <;> omega

@[simp] theorem length_clutBytes (s : State) (p : Plane) (m : CodingMethod) (ptr : Nat) :
    (s.clutBytes p m ptr).length = s.decodeWidth p := by simp [State.clutBytes]

@[simp] theorem length_clut4 (s : State) (p : Plane) (ptr : Nat) : (s.clut4 p ptr).length = s.decodeWidth p := by
  have := decodeWidth_even s p
  simp only [State.clut4, State.clut4Pair, List.length_flatMap, List.length_cons, List.length_nil, List.map_const',
    List.length_range, List.sum_replicate, smul_eq_mul]
  omega

@[simp] theorem length_rgb555 (s : State) (ptrA ptrB : Nat) : (s.rgb555 ptrA ptrB).length = s.decodeWidth .b := by
  simp [State.rgb555]

@[simp] theorem length_dyuvWords (s : State) : ∀ (n ptr : Nat) (c : Carry), (s.dyuvWords n ptr c).1.length = 2 * n
  | 0, _, _ => rfl
  | n + 1, ptr, c => by
    simp only [State.dyuvWords, List.length_cons, length_dyuvWords s n]
    omega

@[simp] theorem length_dyuvLine (s : State) (p : Plane) (ptr : Nat) :
    (s.dyuvLine p ptr).1.length = s.decodeWidth p := by
  have := decodeWidth_even s p
  rw [State.dyuvLine, length_dyuvWords]
  omega

/-! ## Run-length (41 R176, R177) -/

/-- The units of an item, where some remain: at least one and at most what remains, or the overrun fault where the parameter
says so; a count of 0 takes all that remain. -/
theorem runUnits_cases (s : State) (p : Plane) (x left count : Nat) (hl : 1 ≤ left) :
    (∃ n, s.runUnits p x left count = .ok n ∧ 1 ≤ n ∧ n ≤ left ∧ (count = 0 → n = left) ∧
      (1 ≤ count → n = min count left)) ∨
    (left < count ∧ s.cfg.rlOverrun = .fault ∧ s.runUnits p x left count = .error (.runOverrun p s.y x count)) := by
  unfold State.runUnits
  by_cases h0 : count = 0
  · simp only [h0, if_true, le_refl]
    exact .inl ⟨left, rfl, hl, le_refl _, fun _ => rfl, fun h => absurd h (by omega)⟩
  · simp only [if_neg h0]
    by_cases hc : count ≤ left
    · simp only [if_pos hc]
      exact .inl ⟨count, rfl, by omega, hc, fun h => absurd h h0, fun _ => by omega⟩
    · simp only [if_neg hc]
      cases hp : s.cfg.rlOverrun with
      | clamp => exact .inl ⟨left, rfl, hl, le_refl _, fun h => absurd h h0, fun _ => by omega⟩
      | fault => exact .inr ⟨by omega, rfl, rfl⟩

/-- The item loop fills the line from `x` on, exactly: what it answers has the length that was left, and each unit took one or
two bytes; it stops only by an overrun, where the parameter makes that a fault. `w` fuel is enough from pixel 0. -/
theorem rlItems_cases (s : State) (p : Plane) (ptr unit : Nat) (colours : Byte → Line) (hu : 1 ≤ unit)
    (hc : ∀ b, (colours b).length = unit) : ∀ (fuel x i k : Nat), s.decodeWidth p = x + k * unit → k ≤ fuel →
    (∃ r, s.rlItems p ptr unit colours fuel x i = .ok r ∧ r.1.length = k * unit ∧ i + min k 1 ≤ r.2 ∧
      r.2 ≤ i + 2 * k) ∨
    (s.cfg.rlOverrun = .fault ∧ ∃ x' n, s.rlItems p ptr unit colours fuel x i = .error (.runOverrun p s.y x' n))
  | 0, x, i, k, hw, hk => by
    have : k = 0 := by omega
    subst this
    exact .inl ⟨([], i), rfl, by simp, by simp, by simp⟩
  | fuel + 1, x, i, 0, hw, hk => by
    refine .inl ⟨([], i), ?_, by simp, by simp, by simp⟩
    rw [State.rlItems, if_neg (by omega)]
  | fuel + 1, x, i, k + 1, hw, hk => by
    have hlt : x < s.decodeWidth p := by
      have : 1 ≤ (k + 1) * unit := Nat.mul_pos (by omega) hu
      omega
    have hleft : (s.decodeWidth p - x) / unit = k + 1 := by
      rw [hw, Nat.add_sub_cancel_left, Nat.mul_div_cancel _ hu]
    rw [State.rlItems, if_pos hlt]
    simp only [hleft]
    rcases runUnits_cases s p x (k + 1)
        (if (s.byteAt (ptr + i)).getLsbD 7 then (s.byteAt (ptr + i + 1)).toNat else 1) (by omega) with
      ⟨n, hn, h1, h2, -, -⟩ | ⟨-, hp, hn⟩
    · rw [hn]
      have hw' : s.decodeWidth p = (x + n * unit) + (k + 1 - n) * unit := by
        rw [hw, Nat.add_assoc, ← Nat.add_mul]; congr 2; omega
      rcases rlItems_cases s p ptr unit colours hu hc fuel (x + n * unit)
          (if (s.byteAt (ptr + i)).getLsbD 7 then i + 2 else i + 1) (k + 1 - n) hw' (by omega) with
        ⟨r, hr, hl, hb1, hb2⟩ | ⟨hp, x', n', hr⟩
      · refine .inl ⟨((List.replicate n (colours (s.byteAt (ptr + i)))).flatten ++ r.1, r.2), ?_, ?_, ?_, ?_⟩
        · simp only [hr]
        · simp only [List.length_append, List.length_flatten, List.map_replicate, List.sum_replicate, hc, smul_eq_mul, hl]
          rw [← Nat.add_mul]; congr 1; omega
        · split at hb1 <;> simp only <;> omega
        · split at hb2 <;> simp only <;> omega
      · exact .inr ⟨hp, x', n', by simp only [hr]⟩
    · exact .inr ⟨hp, _, _, by rw [hn]⟩

/-- At the end of the line the item loop answers no pixel, whatever its fuel. -/
theorem rlItems_end (s : State) (p : Plane) (ptr unit : Nat) (colours : Byte → Line) (fuel i : Nat) :
    s.rlItems p ptr unit colours fuel (s.decodeWidth p) i = .ok ([], i) := by
  cases fuel with
  | zero => rfl
  | succ fuel => rw [State.rlItems, if_neg (by omega)]

/-- Fuel for the units that are left is enough: more of it gives the same items. -/
theorem rlItems_fuel (s : State) (p : Plane) (ptr unit : Nat) (colours : Byte → Line) (hu : 1 ≤ unit) :
    ∀ (k x i f g : Nat), s.decodeWidth p = x + k * unit → k ≤ f → k ≤ g →
      s.rlItems p ptr unit colours f x i = s.rlItems p ptr unit colours g x i := by
  intro k
  induction k using Nat.strong_induction_on with
  | _ k ih =>
    intro x i f g hw hf hg
    match k, f, g with
    | 0, f, g => simp only [show x = s.decodeWidth p by omega, rlItems_end]
    | k + 1, f + 1, g + 1 =>
      have hlt : x < s.decodeWidth p := by
        have : 1 ≤ (k + 1) * unit := Nat.mul_pos (by omega) hu
        omega
      have hleft : (s.decodeWidth p - x) / unit = k + 1 := by
        rw [hw, Nat.add_sub_cancel_left, Nat.mul_div_cancel _ hu]
      rw [State.rlItems, State.rlItems, if_pos hlt, if_pos hlt]
      simp only [hleft]
      rcases runUnits_cases s p x (k + 1)
          (if (s.byteAt (ptr + i)).getLsbD 7 then (s.byteAt (ptr + i + 1)).toNat else 1) (by omega) with
        ⟨n, hn, h1, h2, -, -⟩ | ⟨-, -, hn⟩
      · have hw' : s.decodeWidth p = (x + n * unit) + (k + 1 - n) * unit := by
          rw [hw, Nat.add_assoc, ← Nat.add_mul]; congr 2; omega
        simp only [hn, ih (k + 1 - n) (by omega) _ _ f g hw' (by omega) (by omega)]
      · simp only [hn]

/-- A decoded line of one stream fills the line where its pixels fill the decode width. -/
theorem decodedFrom_length (s : State) (p : Plane) (px : Line) (n : Nat) (c : Carry)
    (h : px.length = s.decodeWidth p) : (s.decodedFrom p px n c).px.length = s.cfg.width := by
  have := decodeWidth_fills s p
  cases p <;> simpa [State.decodedFrom, h] using this

/-- The host's pending calls play no part in the DYUV words of a line. -/
theorem dyuvWords_calls (s : State) (cs : List HostCall) (n : Nat) :
    ∀ (ptr : Nat) (c : Carry), ({ s with calls := cs } : State).dyuvWords n ptr c = s.dyuvWords n ptr c := by
  induction n with
  | zero => intro ptr c; rfl
  | succ n ih => intro ptr c; simp only [State.dyuvWords, ih]; rfl

/-- The host's pending calls play no part in the items of a run-length line. -/
theorem rlItems_calls (s : State) (cs : List HostCall) (p : Plane) (ptr unit : Nat) (colours : Byte → Line) (n : Nat) :
    ∀ x i : Nat, ({ s with calls := cs } : State).rlItems p ptr unit colours n x i = s.rlItems p ptr unit colours n x i := by
  induction n with
  | zero => intro x i; rfl
  | succ n ih => intro x i; simp only [State.rlItems, ih]; rfl

/-- The host's pending calls play no part in a line decode (41 R162). -/
theorem decodePlane_calls (s : State) (cs : List HostCall) (p : Plane) (ptrA ptrB : Nat) :
    ({ s with calls := cs } : State).decodePlane p ptrA ptrB = s.decodePlane p ptrA ptrB := by
  have h7 (m ptr) : ({ s with calls := cs } : State).rl7 p m ptr = s.rl7 p m ptr := rlItems_calls s cs p ptr _ _ _ _ _
  have h3 (m ptr) : ({ s with calls := cs } : State).rl3 p m ptr = s.rl3 p m ptr := rlItems_calls s cs p ptr _ _ _ _ _
  have hd (ptr) : ({ s with calls := cs } : State).dyuvLine p ptr = s.dyuvLine p ptr := dyuvWords_calls s cs _ _ _
  simp only [State.decodePlane, State.decodeRunLength, h7, h3, hd]
  rfl
end Sys2Proof.Machine
end

