-- ==== Sys2Proof/Laws/Encoding.lean ====
section
/-! SUPPORT. Words and entries as bytes, and the fields that the decoder takes from them. -/

namespace Sys2Proof

/-- Decoding the four bytes of a word decodes the word. -/
theorem decode_bytesOfWord (e : Encoding) (w : Word) : decode e (bytesOfWord w) = .ok (decodeDcp e.dcp w) := by
  have h : wordOfBytes (w.extractLsb' 24 8) (w.extractLsb' 16 8) (w.extractLsb' 8 8) (w.extractLsb' 0 8) = w := by
    unfold wordOfBytes
    apply BitVec.eq_of_getLsbD_eq
    intro i hi
    simp only [BitVec.getLsbD_append, BitVec.getLsbD_extractLsb']
    split_ifs
    · simp_all
    · rw [show 8 + (i - 8) = i by omega]; simp; omega
    · rw [show 16 + (i - 8 - 8) = i by omega]; simp; omega
    · rw [show 24 + (i - 8 - 8 - 8) = i by omega]; simp; omega
  simp only [bytesOfWord, decode, h]

/-- Decoding the three bytes of an entry decodes the entry. -/
theorem decode_bytesOfEntry (e : Encoding) (c : Payload) :
    decode e (bytesOfEntry c) = .ok (decodeMatte e.matte c) := by
  have h : c.extractLsb' 16 8 ++ c.extractLsb' 8 8 ++ c.extractLsb' 0 8 = c := by
    apply BitVec.eq_of_getLsbD_eq
    intro i hi
    simp only [BitVec.getLsbD_append, BitVec.getLsbD_extractLsb']
    split_ifs
    · simp_all
    · rw [show 8 + (i - 8) = i by omega]; simp; omega
    · rw [show 16 + (i - 8 - 8) = i by omega]; simp; omega
  simp only [bytesOfEntry, decode]
  exact congrArg (fun x => Except.ok (decodeMatte e.matte x)) h

theorem append_high (op : Byte) (d : Payload) : (op ++ d : Word).extractLsb' 24 8 = op := by
  apply BitVec.eq_of_getElem_eq
  intro i hi
  rw [BitVec.getElem_extractLsb']
  refine (BitVec.getLsbD_append (x := op) (y := d)).trans ?_
  rw [if_neg (by omega), ← BitVec.getLsbD_eq_getElem]
  congr 1; omega

theorem append_low (op : Byte) (d : Payload) : (op ++ d : Word).extractLsb' 0 24 = d := by
  apply BitVec.eq_of_getElem_eq
  intro i hi
  rw [BitVec.getElem_extractLsb']
  refine (BitVec.getLsbD_append (x := op) (y := d)).trans ?_
  rw [if_pos (by omega), ← BitVec.getLsbD_eq_getElem]
  congr 1; omega

/-- What the opcode byte of a word selects (30_encoding R81). -/
theorem decodeDcp_append (m : DcpMaps) (op : Byte) (d : Payload) : decodeDcp m (op ++ d) =
    if op.getLsbD 7 = false then decodeControl m (op.extractLsb' 4 3) (op.extractLsb' 0 4) d
    else if op.toNat ≤ 0xBF then .loadClut (op.extractLsb' 0 6) d
    else if 0xD0 ≤ op.toNat ∧ op.toNat ≤ 0xD7 then .loadMatte (op.extractLsb' 0 3) d
    else decodeRegLoad m op d := by
  simp only [decodeDcp, append_high, append_low]

/-- The word of a control operation selects it (30_encoding R82). -/
theorem decodeDcp_control : ∀ (m : DcpMaps) (kind : BitVec 3) (x : BitVec 4) (d : Payload),
    decodeDcp m (controlWord (kind.setWidth 4) x d) = decodeControl m kind x d := by
  intro m kind x d
  have h : ∀ (k : BitVec 3) (x : BitVec 4), (k.setWidth 4 ++ x : Byte).getLsbD 7 = false ∧
      (k.setWidth 4 ++ x : Byte).extractLsb' 4 3 = k ∧ (k.setWidth 4 ++ x : Byte).extractLsb' 0 4 = x := by decide
  obtain ⟨h1, h2, h3⟩ := h kind x
  simp only [controlWord, dcpWord, decodeDcp_append, h1, h2, h3, if_true]

/-- The word of a CLUT load selects it, with its offset (30_encoding R81). -/
theorem decodeDcp_clut (m : DcpMaps) (n : BitVec 6) (d : Payload) :
    decodeDcp m (dcpWord (0b10#2 ++ n) d) = .loadClut n d := by
  have h : ∀ n : BitVec 6, ¬((0b10#2 ++ n : Byte).getLsbD 7 = false) ∧ (0b10#2 ++ n : Byte).toNat ≤ 0xBF ∧
      (0b10#2 ++ n : Byte).extractLsb' 0 6 = n := by decide
  obtain ⟨h1, h2, h3⟩ := h n
  rw [dcpWord, decodeDcp_append, if_neg h1, if_pos h2, h3]

/-- The word of a matte load selects it, with its offset (30_encoding R81). -/
theorem decodeDcp_matte (m : DcpMaps) (i : BitVec 3) (d : Payload) :
    decodeDcp m (dcpWord (0b11010#5 ++ i) d) = .loadMatte i d := by
  have h : ∀ i : BitVec 3, ¬((0b11010#5 ++ i : Byte).getLsbD 7 = false) ∧ ¬((0b11010#5 ++ i : Byte).toNat ≤ 0xBF) ∧
      (0xD0 ≤ (0b11010#5 ++ i : Byte).toNat ∧ (0b11010#5 ++ i : Byte).toNat ≤ 0xD7) ∧
      (0b11010#5 ++ i : Byte).extractLsb' 0 3 = i := by decide
  obtain ⟨h1, h2, h3, h4⟩ := h i
  rw [dcpWord, decodeDcp_append, if_neg h1, if_neg h2, if_pos h3, h4]

/-- Every other byte from 0xC0 on selects by the register map (30_encoding R83, R84). -/
theorem decodeDcp_regLoad (m : DcpMaps) (op : Byte) (d : Payload) (h : 0xC0 ≤ op.toNat)
    (hm : ¬(0xD0 ≤ op.toNat ∧ op.toNat ≤ 0xD7)) : decodeDcp m (dcpWord op d) = decodeRegLoad m op d := by
  have h7 : ∀ op : Byte, 0xC0 ≤ op.toNat → ¬(op.getLsbD 7 = false) := by decide
  rw [dcpWord, decodeDcp_append, if_neg (h7 op h), if_neg (by omega), if_neg hm]

/-- A byte of the last class, whose upper three bits are 111, is at least 0xE0 (30_encoding R84). -/
theorem unknownE0_byte : ∀ op : Byte, (op.extractLsb' 5 3 == 7#3) = true → 0xE0 ≤ op.toNat := by decide

/-- No default register load has a byte of the last class (30_encoding R83, R84). -/
theorem find_default_unknown : ∀ op : Byte, 0xE0 ≤ op.toNat → defaultDcpMaps.find op = none := by decide +kernel

theorem decodeRegLoad_unknownE0 (op : Byte) (d : Payload) (h : 0xE0 ≤ op.toNat) :
    decodeRegLoad defaultDcpMaps op d = .unknownE0 op d := by
  rw [decodeRegLoad, find_default_unknown op h]
  show unknownOf op d = _
  unfold unknownOf
  split <;> first | omega | rfl

/-- With the default maps each register load has its own byte (30_encoding R83). -/
theorem find_default_code : ∀ l ∈ RegLoad.all, defaultDcpMaps.find (defaultDcpMaps.code l) = some l := by decide +kernel

/-- The command of an opcode, with its three fields (30_encoding R98). -/
def decodeMatteFields (mop : BitVec 4) (mf : BitVec 1) (micf : BitVec 6) (mxp : BitVec 9) : Instr :=
  match mop.toNat with
  | 0 => .mEnd mf micf mxp
  | 1 => .mRsvd1 mf micf mxp
  | 2 => .mRsvd2 mf micf mxp
  | 3 => .mRsvd3 mf micf mxp
  | 4 => .mIcfA mf micf mxp
  | 5 => .mRsvd5 mf micf mxp
  | 6 => .mIcfB mf micf mxp
  | 7 => .mRsvd7 mf micf mxp
  | 8 => .mClr mf micf mxp
  | 9 => .mSet mf micf mxp
  | 10 => .mRsvdA mf micf mxp
  | 11 => .mRsvdB mf micf mxp
  | 12 => .mIcfAClr mf micf mxp
  | 13 => .mIcfASet mf micf mxp
  | 14 => .mIcfBClr mf micf mxp
  | _ => .mIcfBSet mf micf mxp

/-- An entry decodes by its opcode and its three fields alone (30_encoding R97). -/
theorem decodeMatte_eq (l : MatteLayout) (c : Payload) :
    decodeMatte l c = decodeMatteFields (matteOp l c) (matteFlagIndex l c) (matteFactor l c) (matteX l c) := rfl

/-- The fields of the entry that `matteEntry` builds are the ones it was given (30_encoding R97). -/
theorem matteEntry_fields (mop : BitVec 4) (mf : BitVec 1) (micf : BitVec 6) (mxp : BitVec 9) :
    matteOp defaultMatteLayout (matteEntry mop mf micf mxp) = mop ∧
      matteFlagIndex defaultMatteLayout (matteEntry mop mf micf mxp) = mf ∧
      matteFactor defaultMatteLayout (matteEntry mop mf micf mxp) = micf ∧
      matteX defaultMatteLayout (matteEntry mop mf micf mxp) = mxp := by
  unfold matteOp matteFlagIndex matteFactor matteX matteEntry
  simp only [defaultMatteLayout]
  refine ⟨?_, ?_, ?_, ?_⟩ <;>
  · apply BitVec.eq_of_getElem_eq
    intro i hi
    simp only [BitVec.getElem_extractLsb', BitVec.getLsbD_append]
    simp only [← BitVec.getLsbD_eq_getElem]
    first
    | (rw [if_neg (by omega), if_neg (by omega), if_neg (by omega), if_neg (by omega), if_neg (by omega)]
       congr 1; omega)
    | (rw [if_neg (by omega), if_neg (by omega), if_neg (by omega), if_pos (by omega)]; congr 1; omega)
    | (rw [if_neg (by omega), if_neg (by omega), if_pos (by omega)]; congr 1; omega)
    | (rw [if_neg (by omega), if_pos (by omega)]; congr 1; omega)

end Sys2Proof
end

