-- ==== Sys2Proof/Laws/Ops.lean ====
section
/-! SUPPORT. What each shared operation can do, said once: faults, guarded loads, display parameters, the tracker's pointer and flags, table indices. -/

namespace Sys2Proof.Machine

/-! ## Faults -/

/-- Raising on an unfaulted block (60 R313). -/
theorem raise_faulted {s : State} (f : Fault) (h : s.fault = none) : Faulted s (s.raise f) f := by
  simp [Faulted, State.raise, h]

/-- Raising on a faulted block keeps the first record (60 R313). -/
theorem raise_kept {s : State} {g : Fault} (f : Fault) (h : s.fault = some g) :
    s.raise f = { s with phase := .idle, outputs := s.outputs ++ [.faulted g] } := by
  cases s; simp_all [State.raise]

theorem raise_fault_isSome (s : State) (f : Fault) : (s.raise f).fault ≠ none := by simp [State.raise]

/-! ## Loads -/

/-- A guarded load has its effect, or logs and does nothing else (40 R112). -/
theorem guardedLoad_cases (s : State) (r : Rights) (l : RegLoad) (eff : State → State) :
    (permitted s.cfg r s.run.ch = true ∧ s.guardedLoad r l eff = eff s) ∨
    (permitted s.cfg r s.run.ch = false ∧
      s.guardedLoad r l eff = s.logDev (.channelNotPermitted s.run.ch (s.cfg.enc.dcp.code l))) := by
  unfold State.guardedLoad
  cases permitted s.cfg r s.run.ch <;> simp

theorem guardedLoad_permitted {s : State} {r : Rights} (l : RegLoad) (eff : State → State)
    (h : permitted s.cfg r s.run.ch = true) : s.guardedLoad r l eff = eff s := if_pos h

theorem guardedLoad_refused {s : State} {r : Rights} (l : RegLoad) (eff : State → State)
    (h : permitted s.cfg r s.run.ch = false) :
    s.guardedLoad r l eff = s.logDev (.channelNotPermitted s.run.ch (s.cfg.enc.dcp.code l)) := by
  simp [State.guardedLoad, h]

/-- A register load writes its register, or logs and does nothing else (40 R112, R122 to R140). -/
theorem loadReg_cases (s : State) (r : Rights) (l : RegLoad) (x : Reg) (d : Payload) :
    (permitted s.cfg r s.run.ch = true ∧ s.loadReg r l x d = s.setReg x d) ∨
    (permitted s.cfg r s.run.ch = false ∧
      s.loadReg r l x d = s.logDev (.channelNotPermitted s.run.ch (s.cfg.enc.dcp.code l))) :=
  guardedLoad_cases s r l _

/-- Which channel a class of rights admits (40 R112). -/
theorem permitted_iff (cfg : Config) (r : Rights) (ch : Channel) :
    permitted cfg r ch = true ↔
      r = .both ∨ (r = .aOnly ∧ ch = .a) ∨ (r = .bOnly ∧ (ch = .b ∨ cfg.chAWritesB = true)) := by
  cases r <;> cases ch <;> simp [permitted]

/-! ## Display parameters (40 R120, 30_encoding R99) -/

theorem dpField_toNat (d : Payload) : (d.extractLsb' 8 2).toNat = d.toNat / 256 % 4 := by
  simp [BitVec.extractLsb'_toNat, Nat.shiftRight_eq_div_pow]

/-- The decoding fails exactly on the reserved class. -/
theorem decodeDp_eq_none_iff (d : Payload) : decodeDp d = none ↔ d.toNat / 256 % 4 = 3 := by
  have hb : (d.extractLsb' 8 2).toNat < 4 := (d.extractLsb' 8 2).isLt
  rw [← dpField_toNat]
  unfold decodeDp dpBpp
  generalize (d.extractLsb' 8 2).toNat = n at *
  interval_cases n <;> simp

/-- The mask of `raw` (10_state R36) keeps every field that the decoding reads. -/
theorem dpMask_fields (d : Payload) :
    (d &&& 0x00030F).extractLsb' 0 2 = d.extractLsb' 0 2 ∧ (d &&& 0x00030F).extractLsb' 2 2 = d.extractLsb' 2 2 ∧
      (d &&& 0x00030F).extractLsb' 8 2 = d.extractLsb' 8 2 := by
  have e1 : (0x00030F : Payload).extractLsb' 0 2 = 3#2 := by decide
  have e2 : (0x00030F : Payload).extractLsb' 2 2 = 3#2 := by decide
  have e3 : (0x00030F : Payload).extractLsb' 8 2 = 3#2 := by decide
  have hand : ∀ x : BitVec 2, x &&& 3#2 = x := by decide
  refine ⟨?_, ?_, ?_⟩ <;> rw [BitVec.extractLsb'_and] <;> simp only [e1, e2, e3, hand]

/-- What a decoding answers is the decoding of its own `raw` value. -/
theorem decodeDp_legal {d : Payload} {v : DisplayParams} (h : decodeDp d = some v) : v.Legal := by
  obtain ⟨m1, m2, m3⟩ := dpMask_fields d
  have hraw : v.raw = d &&& 0x00030F := by
    unfold decodeDp at h; split at h <;> cases h; rfl
  unfold DisplayParams.Legal
  rw [hraw, ← h]
  unfold decodeDp dpBpp dpImageType dpRepeat
  rw [m1, m2, m3, BitVec.and_assoc, BitVec.and_self]

/-- A load of display parameters writes a legal value and goes on, or raises (40 R120, 46 R297). -/
theorem loadDisplayParams_cases (s : State) (p : Plane) (d : Payload) (src : DpSource) (ok : State → State) :
    (∃ v, decodeDp d = some v ∧ v.Legal ∧ s.loadDisplayParams p d src ok = ok (s.setDp p v)) ∨
    (d.toNat / 256 % 4 = 3 ∧ s.loadDisplayParams p d src ok = s.raise (.reservedBpp src)) := by
  cases h : decodeDp d with
  | none => exact .inr ⟨(decodeDp_eq_none_iff d).mp h, by simp [State.loadDisplayParams, h]⟩
  | some v => exact .inl ⟨v, rfl, decodeDp_legal h, by simp [State.loadDisplayParams, h]⟩

/-! ## The matte tracker (42 R213 to R219) -/

/-- The advance from an entry below the limit. -/
theorem matteAdvance_advanced {s : State} {i : Fin 8} (h : s.mptr.get s.line.plane = some i)
    (hi : i.val < (s.mlim.get s.line.plane).val) : MatteAdvanced s s.matteAdvance i := by
  simp only [MatteAdvanced, State.matteAdvance, AB.get_set_same, h, Option.bind_some, nextMatte_val hi,
    AB.get_set_other _ _ (otherPlane_ne s.line.plane), and_self]

/-- A flag write writes one flag of the stepping plane. -/
theorem matteSetFlag_set (s : State) (mf : BitVec 1) (v : Bool) : MatteFlagSet s (s.matteSetFlag mf v) mf v := by
  refine ⟨?_, ?_, ?_⟩
  · simp [State.matteSetFlag]
  · intro g hg
    simp [State.matteSetFlag, FlagPair.get_set_other _ _ hg]
  · simp [State.matteSetFlag, AB.get_set_other _ _ (otherPlane_ne s.line.plane)]

/-- A reserved matte opcode logs and advances, or raises (42 R217). -/
theorem matteReservedOp_cases (s : State) (op : BitVec 4) :
    (s.cfg.matteReserved = .log ∧
      s.matteReservedOp op = (s.logDev (.reservedMatteOp s.line.plane op)).matteAdvance) ∨
    (s.cfg.matteReserved = .fault ∧
      s.matteReservedOp op = s.raise (.reservedMatteOp s.line.plane (s.mptr.get s.line.plane) s.line.k s.y)) := by
  unfold State.matteReservedOp
  cases s.cfg.matteReserved <;> simp

/-- A tracker step finds nothing to execute, or the entry its plane's pointer is at (42 R211). -/
theorem reachedMatte_eq_some_iff (s : State) (c : Payload) :
    s.reachedMatte = some c ↔
      ∃ i : Fin 8, s.mptr.get s.line.plane = some i ∧ (matteX s.cfg.enc.matte (s.matteAt i)).toNat ≤ s.line.k ∧
        s.matteAt i = c := by
  unfold State.reachedMatte
  cases h : s.mptr.get s.line.plane with
  | none => simp
  | some i => by_cases hx : (matteX s.cfg.enc.matte (s.matteAt i)).toNat ≤ s.line.k <;> simp [hx]

/-! ## Host tables (46 R298) -/

theorem withIndex_pos {s : State} {t : Table} {size i : Nat} (go : i < size → State) (h : i < size) :
    s.withIndex t size i go = go h := dif_pos h

theorem withIndex_neg {s : State} {t : Table} {size i : Nat} (go : i < size → State) (h : size ≤ i) :
    s.withIndex t size i go = s.raise (.indexOutOfRange t i) := dif_neg (by omega)

end Sys2Proof.Machine
end

