-- ==== Sys2Proof/Laws/Exec.lean ====
section
/-! SUPPORT. What executing an instruction can do, said once for the DCP words and once for the matte commands. -/

namespace Sys2Proof.Machine

/-- What a DCP word can do: nothing but the named fields changes, the run goes on or the block becomes idle, a fault record
is kept, a new one leaves the block idle, and display parameters stay decodings. -/
structure DcpEffect (s t : State) : Prop where
  fields : t = { s with
    regs := t.regs
    dp := t.dp
    clut := t.clut
    curpat := t.curpat
    matte := t.matte
    fault := t.fault
    log := t.log
    run := { s.run with irq := t.run.irq }
    phase := t.phase
    outputs := t.outputs }
  phase : t.phase = s.phase ∨ t.phase = .idle
  faultKept : s.fault ≠ none → t.fault = s.fault
  quiet : s.fault = none → t.fault ≠ none → t.phase = .idle
  dpLegal : (∀ p : Plane, (s.dp.get p).Legal) → ∀ p : Plane, (t.dp.get p).Legal

/-- What a matte command can do: nothing but the named fields changes, the line goes on or a fault makes the block idle, a
fault record is kept, and a pointer stays below its limit. -/
structure MatteEffect (s t : State) : Prop where
  fields : t = { s with
    regs := t.regs
    mptr := t.mptr
    mflag := t.mflag
    fault := t.fault
    log := t.log
    phase := t.phase
    outputs := t.outputs }
  phase : t.phase = s.phase ∨ (t.phase = .idle ∧ t.fault ≠ none)
  faultKept : s.fault ≠ none → t.fault = s.fault
  quiet : s.fault = none → t.fault ≠ none → t.phase = .idle
  noFault : s.cfg.matteReserved = .log → t.fault = s.fault
  pointer : (∀ (p : Plane) (i : Fin 8), s.mptr.get p = some i → i.val < (s.mlim.get p).val) →
    ∀ (p : Plane) (i : Fin 8), t.mptr.get p = some i → i.val < (s.mlim.get p).val

variable (s : State)

/-! ## DCP words -/

theorem dcpEffect_refl : DcpEffect s s :=
  ⟨rfl, .inl rfl, fun _ => rfl, fun h h' => absurd h h', fun h => h⟩

theorem dcpEffect_logDev (d : Deviation) : DcpEffect s (s.logDev d) :=
  ⟨rfl, .inl rfl, fun _ => rfl, fun h h' => absurd h h', fun h => h⟩

theorem dcpEffect_raise (f : Fault) : DcpEffect s (s.raise f) where
  fields := rfl
  phase := .inr rfl
  faultKept h := by cases hs : s.fault <;> simp_all [State.raise]
  quiet _ _ := rfl
  dpLegal h := h

theorem dcpEffect_endRun (e : RunEnd) (d : Payload) : DcpEffect s (s.endRun e d) :=
  ⟨rfl, .inr rfl, fun _ => rfl, fun h h' => absurd h h', fun h => h⟩

theorem dcpEffect_loadReg (r : Rights) (l : RegLoad) (x : Reg) (d : Payload) : DcpEffect s (s.loadReg r l x d) := by
  rcases loadReg_cases s r l x d with ⟨_, h⟩ | ⟨_, h⟩ <;> rw [h]
  · exact ⟨rfl, .inl rfl, fun _ => rfl, fun h h' => absurd h h', fun h => h⟩
  · exact dcpEffect_logDev s _

theorem dcpEffect_guardedLoad (r : Rights) (l : RegLoad) (eff : State → State) (h : DcpEffect s (eff s)) :
    DcpEffect s (s.guardedLoad r l eff) := by
  rcases guardedLoad_cases s r l eff with ⟨_, e⟩ | ⟨_, e⟩ <;> rw [e]
  · exact h
  · exact dcpEffect_logDev s _

theorem dcpEffect_signal (x : BitVec 4) (d : Payload) : ∃ t, execSignal x d s = .next t ∧ DcpEffect s t := by
  refine ⟨_, rfl, ?_⟩
  dsimp only
  split <;> split <;>
    exact ⟨rfl, by first | exact .inl rfl | exact .inr rfl, fun _ => rfl, fun h h' => absurd h h', fun h => h⟩

theorem dcpEffect_loadDp (x : BitVec 4) (d : Payload) : ∃ t, execLoadDp x d s = .next t ∧ DcpEffect s t := by
  refine ⟨_, rfl, ?_⟩
  rcases loadDisplayParams_cases s s.run.ch.plane d (.program s.run.ch
    (controlWord ((s.cfg.enc.dcp.controlCode .loadDp).setWidth 4) x d) s.wordAddr) id with
    ⟨v, _, hv, h⟩ | ⟨_, h⟩ <;> rw [h]
  · refine ⟨rfl, .inl rfl, fun _ => rfl, fun h h' => absurd h h', fun hl p => ?_⟩
    simp only [id, State.setDp, AB.get_set]
    split
    · exact hv
    · exact hl p
  · exact dcpEffect_raise s _

theorem dcpEffect_setMatte (i : Fin 8) (d : Payload) : DcpEffect s (s.setMatte i d) :=
  ⟨rfl, .inl rfl, fun _ => rfl, fun h h' => absurd h h', fun h => h⟩

theorem dcpEffect_loadClut (n : BitVec 6) (d : Payload) : ∃ t, execLoadClut n d s = .next t ∧ DcpEffect s t := by
  refine ⟨_, rfl, ?_⟩
  split
  · exact ⟨rfl, .inl rfl, fun _ => rfl, fun h h' => absurd h h', fun h => h⟩
  · exact dcpEffect_refl s

theorem dcpEffect_loadIcm (d : Payload) : ∃ t, execLoadIcm d s = .next t ∧ DcpEffect s t :=
  ⟨_, rfl, dcpEffect_guardedLoad s _ _ _ ⟨rfl, .inl rfl, fun _ => rfl, fun h h' => absurd h h', fun h => h⟩⟩

theorem dcpEffect_loadCurpat (d : Payload) : ∃ t, execLoadCurpat d s = .next t ∧ DcpEffect s t :=
  ⟨_, rfl, dcpEffect_guardedLoad s _ _ _ ⟨rfl, .inl rfl, fun _ => rfl, fun h h' => absurd h h', fun h => h⟩⟩

/-- Every DCP word has a next state, and it differs as `DcpEffect` says. -/
theorem exec_dcp (i : Instr) (hi : i.isMatte = false) : ∃ t, exec i s = .next t ∧ DcpEffect s t := by
  cases i
  case stop | reloadDcp | reloadDcpStop | reloadVsr | reloadVsrStop => exact ⟨_, rfl, dcpEffect_endRun s _ _⟩
  case nop => exact ⟨_, rfl, dcpEffect_refl s⟩
  case signal x d => exact dcpEffect_signal s x d
  case loadDp => exact dcpEffect_loadDp s _ _
  case loadClut => exact dcpEffect_loadClut s _ _
  case loadIcm => exact dcpEffect_loadIcm s _
  case loadTc | loadPo | loadBank | loadTcolA | loadTcolB | loadMcolA | loadMcolB | loadDyuvA | loadDyuvB |
    loadCurpos | loadCurctl | loadBackdrop | loadMosaicA | loadMosaicB | loadIcfA | loadIcfB => exact ⟨_, rfl,
    dcpEffect_loadReg s _ _ _ _⟩
  case loadCurpat => exact dcpEffect_loadCurpat s _
  case loadMatte => exact ⟨_, rfl, dcpEffect_setMatte s _ _⟩
  case unknownC5 | unknownC8 | unknownCC | unknownDD | unknownDE | unknownDF | unknownE0 => exact ⟨_, rfl,
    dcpEffect_logDev s _⟩
  case mEnd | mRsvd1 | mRsvd2 | mRsvd3 | mIcfA | mRsvd5 | mIcfB | mRsvd7 | mClr | mSet | mRsvdA | mRsvdB | mIcfAClr
    | mIcfASet | mIcfBClr | mIcfBSet => cases (show true = false from hi)

/-! ## Matte commands -/

/-- The advance keeps every pointer below its limit, from any limit it was below. -/
theorem matteAdvance_pointer
    (h : ∀ (p : Plane) (i : Fin 8), s.mptr.get p = some i → i.val < (s.mlim.get p).val) (p : Plane) (i : Fin 8)
    (hi : s.matteAdvance.mptr.get p = some i) : i.val < (s.mlim.get p).val := by
  simp only [State.matteAdvance, AB.get_set] at hi
  split at hi
  · next hp =>
    subst hp
    cases hm : s.mptr.get s.line.plane with
    | none => simp [hm] at hi
    | some j =>
      rw [hm, Option.bind_some] at hi
      exact (nextMatte_lt (h _ j hm) hi).2
  · exact h p i hi

/-- A command that writes registers, flags and the log and then advances. -/
theorem matteEffect_advance {u : State} (hu : u = { s with regs := u.regs, mflag := u.mflag, log := u.log }) :
    MatteEffect s u.matteAdvance := by
  have hm : u.mptr = s.mptr := by rw [hu]
  have hl : u.mlim = s.mlim := by rw [hu]
  have hf : u.fault = s.fault := by rw [hu]
  have hp : u.phase = s.phase := by rw [hu]
  refine ⟨?_, .inl hp, fun _ => hf, fun h h' => absurd (hf.trans h) h', fun _ => hf, ?_⟩
  · conv_lhs => rw [hu]
    rw [hu]; rfl
  · intro h p i hi
    have := matteAdvance_pointer u (by rw [hm, hl]; exact h) p i hi
    rwa [hl] at this

theorem matteEffect_reserved (op : BitVec 4) : MatteEffect s (s.matteReservedOp op) := by
  rcases matteReservedOp_cases s op with ⟨_, h⟩ | ⟨hp, h⟩ <;> rw [h]
  · exact matteEffect_advance s rfl
  · refine ⟨rfl, .inr ⟨rfl, raise_fault_isSome s _⟩, ?_, fun _ _ => rfl, fun h' => ?_, fun h => h⟩
    · intro h'; cases hs : s.fault <;> simp_all [State.raise]
    · rw [hp] at h'; cases h'

theorem matteEffect_end : MatteEffect s { s with mptr := s.mptr.set s.line.plane none } := by
  refine ⟨rfl, .inl rfl, fun _ => rfl, fun h h' => absurd h h', fun _ => rfl, ?_⟩
  intro h p i hi
  simp only [AB.get_set] at hi
  split at hi
  · cases hi
  · exact h p i hi

/-- Every matte command has a next state, and it differs as `MatteEffect` says. -/
theorem exec_matte (i : Instr) (hi : i.isMatte = true) : ∃ t, exec i s = .next t ∧ MatteEffect s t := by
  cases i
  case stop | nop | reloadDcp | reloadDcpStop | reloadVsr | reloadVsrStop | signal | loadDp | loadClut | loadIcm |
    loadTc | loadPo | loadBank | loadTcolA | loadTcolB | loadMcolA | loadMcolB | loadDyuvA | loadDyuvB | loadCurpos
    | loadCurctl | loadCurpat | loadMatte | loadBackdrop | loadMosaicA | loadMosaicB | loadIcfA | loadIcfB |
    unknownC5 | unknownC8 | unknownCC | unknownDD | unknownDE | unknownDF | unknownE0 => cases (show false = true
    from hi)
  case mEnd => exact ⟨_, rfl, matteEffect_end s⟩
  case mRsvd1 | mRsvd2 | mRsvd3 | mRsvd5 | mRsvd7 | mRsvdA | mRsvdB => exact ⟨_, rfl, matteEffect_reserved s _⟩
  case mIcfA | mIcfB | mClr | mSet | mIcfAClr | mIcfASet | mIcfBClr | mIcfBSet => exact ⟨_, rfl,
    matteEffect_advance s rfl⟩

/-! ## What the two decoders give -/

theorem unknownOf_isMatte (op : Byte) (d : Payload) : (unknownOf op d).isMatte = false := by
  unfold unknownOf; split <;> rfl

theorem decodeRegLoad_isMatte (m : DcpMaps) (op : Byte) (d : Payload) : (decodeRegLoad m op d).isMatte = false := by
  unfold decodeRegLoad
  split
  · next l _ => cases l <;> rfl
  · exact unknownOf_isMatte op d

theorem decodeControl_isMatte (m : DcpMaps) (kind : BitVec 3) (x : BitVec 4) (d : Payload) :
    (decodeControl m kind x d).isMatte = false := by
  unfold decodeControl
  generalize m.ctrl[kind.toNat]'kind.isLt = k
  cases k <;> rfl

/-- A DCP word decodes to a DCP instruction. -/
theorem decodeDcp_isMatte (m : DcpMaps) (w : Word) : (decodeDcp m w).isMatte = false := by
  unfold decodeDcp
  dsimp only
  split
  · exact decodeControl_isMatte _ _ _ _
  · split
    · rfl
    · split
      · rfl
      · exact decodeRegLoad_isMatte _ _ _

/-- An entry of the matte table decodes to a matte command. -/
theorem decodeMatte_isMatte (l : MatteLayout) (c : Payload) : (decodeMatte l c).isMatte = true := by
  unfold decodeMatte
  dsimp only
  split <;> rfl

end Sys2Proof.Machine
end

