-- ==== Sys2Proof/Laws/Memory.lean ====
section
/-! SUPPORT. The raw byte region: read after write, and the canonical form that every write keeps. -/

namespace Sys2Proof.Machine

theorem regionWfFrom_mono {size lo lo' : Nat} (h : lo' ≤ lo) (m : List Host.Cell)
    (hm : regionWfFrom size lo m = true) : regionWfFrom size lo' m = true := by
  cases m with
  | nil => rfl
  | cons c rest =>
    simp only [regionWfFrom, Bool.and_eq_true, decide_eq_true_eq] at hm ⊢
    exact ⟨⟨⟨by omega, hm.1.1.2⟩, hm.1.2⟩, hm.2⟩

/-- A region whose entries begin at `lo` lists no address below it. -/
theorem regionRead_below {size : Nat} : ∀ (m : List Host.Cell) (lo a : Nat),
    regionWfFrom size lo m = true → a < lo → regionRead m a = unlistedByte
  | [], _, _, _, _ => rfl
  | (k, v) :: rest, lo, a, hm, ha => by
    simp only [regionWfFrom, Bool.and_eq_true, decide_eq_true_eq] at hm
    have hk : k ≠ a := by omega
    rw [regionRead, if_neg hk]
    exact regionRead_below rest (k + 1) a hm.2 (by omega)

/-- The canonical form is kept by a write within the size (20_memory R60). -/
theorem regionWrite_wfFrom {size : Nat} : ∀ (m : List Host.Cell) (lo a : Nat) (v : Byte),
    regionWfFrom size lo m = true → lo ≤ a → a < size → regionWfFrom size lo (regionWrite m a v) = true
  | [], lo, a, v, _, hlo, ha => by
    unfold regionWrite
    split <;> simp_all [regionWfFrom]
  | (k, w) :: rest, lo, a, v, hm, hlo, ha => by
    have hm' := hm
    simp only [regionWfFrom, Bool.and_eq_true, decide_eq_true_eq] at hm
    obtain ⟨⟨⟨h1, h2⟩, h3⟩, h4⟩ := hm
    unfold regionWrite
    split
    · split
      · exact hm'
      · simp_all [regionWfFrom]
    · split
      · split
        · exact regionWfFrom_mono (by omega) rest h4
        · simp_all [regionWfFrom]
      · have := regionWrite_wfFrom rest (k + 1) a v h4 (by omega) ha
        simp_all [regionWfFrom]

theorem Memory.wf_regionWrite {size : Nat} {m : List Host.Cell} {a : Nat} (v : Byte)
    (hm : Memory.wf size m = true) (ha : a < size) : Memory.wf size (regionWrite m a v) = true :=
  regionWrite_wfFrom m 0 a v hm (Nat.zero_le a) ha

/-- Read after write on a canonical region: the written address gives the value, every other address what it gave. -/
theorem regionRead_regionWrite {size : Nat} : ∀ (m : List Host.Cell) (lo a b : Nat) (v : Byte),
    regionWfFrom size lo m = true → regionRead (regionWrite m a v) b = if b = a then v else regionRead m b
  | [], lo, a, b, v, _ => by
    unfold regionWrite
    split
    · split <;> simp_all [regionRead]
    · by_cases h : a = b <;> simp [regionRead, h, eq_comm]
  | (k, w) :: rest, lo, a, b, v, hm => by
    simp only [regionWfFrom, Bool.and_eq_true, decide_eq_true_eq] at hm
    obtain ⟨⟨⟨h1, h2⟩, h3⟩, h4⟩ := hm
    unfold regionWrite
    split
    · next hak =>
      split
      · next hv =>
        split
        · next hb =>
          subst hb
          rw [regionRead, if_neg (by omega), hv]
          exact regionRead_below rest (k + 1) b h4 (by omega)
        · rfl
      · by_cases h : a = b
        · simp [regionRead, h]
        · simp [regionRead, h, Ne.symm h]
    · split
      · next hka =>
        subst hka
        split
        · next hv =>
          split
          · next hb => subst hb; rw [hv]; exact regionRead_below rest (b + 1) b h4 (by omega)
          · next hb => rw [regionRead, if_neg (Ne.symm hb)]
        · by_cases h : a = b
          · simp [regionRead, h]
          · simp [regionRead, h, Ne.symm h]
      · next h5 h6 =>
        rw [regionRead, regionRead_regionWrite rest (k + 1) a b v h4, regionRead]
        by_cases h : k = b
        · subst h; simp [Ne.symm h6]
        · simp [h]

theorem Config.regionSize_pos (c : Config) : 0 < c.regionSize := Nat.two_pow_pos _

/-- A host write keeps the region canonical. -/
theorem writeByte_wf (s : State) (a : Nat) (v : Byte) (h : Memory.wf s.cfg.regionSize s.region = true) :
    Memory.wf (s.writeByte a v).cfg.regionSize (s.writeByte a v).region = true :=
  Memory.wf_regionWrite v h (Nat.mod_lt _ (Config.regionSize_pos s.cfg))

/-- What the block reads after a host write (20_memory R61, R62). -/
theorem byteAt_writeByte (s : State) (a b : Nat) (v : Byte) (h : Memory.wf s.cfg.regionSize s.region = true) :
    (s.writeByte a v).byteAt b =
      if b % s.cfg.regionSize = a % s.cfg.regionSize then v else s.byteAt b :=
  regionRead_regionWrite s.region 0 _ _ v h

/-- Two states with the same region and parameters read the same bytes. -/
theorem byteAt_congr {s t : State} (hr : t.region = s.region) (hc : t.cfg = s.cfg) (a : Nat) :
    t.byteAt a = s.byteAt a := by
  simp [State.byteAt, hr, hc]

end Sys2Proof.Machine
end

