-- ==== Sys2Proof/Laws/PerInstr.lean ====
section
/-! SUPPORT. What is said of every instruction, one lemma per constructor: decoding its encoding gives it back. -/

namespace Sys2Proof.Laws.RoundTrip

/-- Decoding the encoded bytes of a well-formed instruction gives the instruction back. -/
def Statement (i : Instr) : Prop := i.wellFormed = true → decode defaultEncoding (encode i) = .ok i

/-- A control operation comes back. -/
theorem control (kind : BitVec 3) (x : BitVec 4) (d : Payload) :
    decode defaultEncoding (bytesOfWord (controlWord (kind.setWidth 4) x d)) =
      .ok (decodeControl defaultDcpMaps kind x d) := by
  rw [decode_bytesOfWord, decodeDcp_control]; rfl

/-- A load or an unknown opcode of the register map comes back. -/
theorem regLoad (op : Byte) (d : Payload) (h : 0xC0 ≤ op.toNat) (hm : ¬(0xD0 ≤ op.toNat ∧ op.toNat ≤ 0xD7)) :
    decode defaultEncoding (bytesOfWord (dcpWord op d)) = .ok (decodeRegLoad defaultDcpMaps op d) := by
  rw [decode_bytesOfWord, decodeDcp_regLoad _ op d h hm]; rfl

/-- A matte command comes back by its opcode, with its three fields. -/
theorem entry (mop : BitVec 4) (mf : BitVec 1) (micf : BitVec 6) (mxp : BitVec 9) :
    decode defaultEncoding (bytesOfEntry (matteEntry mop mf micf mxp)) = .ok (decodeMatteFields mop mf micf mxp) := by
  obtain ⟨h1, h2, h3, h4⟩ := matteEntry_fields mop mf micf mxp
  rw [decode_bytesOfEntry, show defaultEncoding.matte = defaultMatteLayout from rfl, decodeMatte_eq, h1, h2, h3, h4]

theorem stop (x : BitVec 4) (d : Payload) : Statement (.stop x d) :=
  fun _ => control 0#3 x d

theorem nop (x : BitVec 4) (d : Payload) : Statement (.nop x d) :=
  fun _ => control 1#3 x d

theorem reloadDcp (x : BitVec 4) (d : Payload) : Statement (.reloadDcp x d) :=
  fun _ => control 2#3 x d

theorem reloadDcpStop (x : BitVec 4) (d : Payload) : Statement (.reloadDcpStop x d) :=
  fun _ => control 3#3 x d

theorem reloadVsr (x : BitVec 4) (d : Payload) : Statement (.reloadVsr x d) :=
  fun _ => control 4#3 x d

theorem reloadVsrStop (x : BitVec 4) (d : Payload) : Statement (.reloadVsrStop x d) :=
  fun _ => control 5#3 x d

theorem signal (x : BitVec 4) (d : Payload) : Statement (.signal x d) :=
  fun _ => control 6#3 x d

theorem loadDp (x : BitVec 4) (d : Payload) : Statement (.loadDp x d) :=
  fun _ => control 7#3 x d

theorem loadClut (n : BitVec 6) (d : Payload) : Statement (.loadClut n d) :=
  fun _ => by rw [encode, decode_bytesOfWord, decodeDcp_clut]

theorem loadIcm (d : Payload) : Statement (.loadIcm d) :=
  fun _ => regLoad 0xC0#8 d (by decide) (by decide)

theorem loadTc (d : Payload) : Statement (.loadTc d) :=
  fun _ => regLoad 0xC1#8 d (by decide) (by decide)

theorem loadPo (d : Payload) : Statement (.loadPo d) :=
  fun _ => regLoad 0xC2#8 d (by decide) (by decide)

theorem loadBank (d : Payload) : Statement (.loadBank d) :=
  fun _ => regLoad 0xC3#8 d (by decide) (by decide)

theorem loadTcolA (d : Payload) : Statement (.loadTcolA d) :=
  fun _ => regLoad 0xC4#8 d (by decide) (by decide)

theorem loadTcolB (d : Payload) : Statement (.loadTcolB d) :=
  fun _ => regLoad 0xC6#8 d (by decide) (by decide)

theorem loadMcolA (d : Payload) : Statement (.loadMcolA d) :=
  fun _ => regLoad 0xC7#8 d (by decide) (by decide)

theorem loadMcolB (d : Payload) : Statement (.loadMcolB d) :=
  fun _ => regLoad 0xC9#8 d (by decide) (by decide)

theorem loadDyuvA (d : Payload) : Statement (.loadDyuvA d) :=
  fun _ => regLoad 0xCA#8 d (by decide) (by decide)

theorem loadDyuvB (d : Payload) : Statement (.loadDyuvB d) :=
  fun _ => regLoad 0xCB#8 d (by decide) (by decide)

theorem loadCurpos (d : Payload) : Statement (.loadCurpos d) :=
  fun _ => regLoad 0xCD#8 d (by decide) (by decide)

theorem loadCurctl (d : Payload) : Statement (.loadCurctl d) :=
  fun _ => regLoad 0xCE#8 d (by decide) (by decide)

theorem loadCurpat (d : Payload) : Statement (.loadCurpat d) :=
  fun _ => regLoad 0xCF#8 d (by decide) (by decide)

theorem loadMatte (i : BitVec 3) (d : Payload) : Statement (.loadMatte i d) :=
  fun _ => by rw [encode, decode_bytesOfWord, decodeDcp_matte]

theorem loadBackdrop (d : Payload) : Statement (.loadBackdrop d) :=
  fun _ => regLoad 0xD8#8 d (by decide) (by decide)

theorem loadMosaicA (d : Payload) : Statement (.loadMosaicA d) :=
  fun _ => regLoad 0xD9#8 d (by decide) (by decide)

theorem loadMosaicB (d : Payload) : Statement (.loadMosaicB d) :=
  fun _ => regLoad 0xDA#8 d (by decide) (by decide)

theorem loadIcfA (d : Payload) : Statement (.loadIcfA d) :=
  fun _ => regLoad 0xDB#8 d (by decide) (by decide)

theorem loadIcfB (d : Payload) : Statement (.loadIcfB d) :=
  fun _ => regLoad 0xDC#8 d (by decide) (by decide)

theorem unknownC5 (d : Payload) : Statement (.unknownC5 d) :=
  fun _ => regLoad 0xC5#8 d (by decide) (by decide)

theorem unknownC8 (d : Payload) : Statement (.unknownC8 d) :=
  fun _ => regLoad 0xC8#8 d (by decide) (by decide)

theorem unknownCC (d : Payload) : Statement (.unknownCC d) :=
  fun _ => regLoad 0xCC#8 d (by decide) (by decide)

theorem unknownDD (d : Payload) : Statement (.unknownDD d) :=
  fun _ => regLoad 0xDD#8 d (by decide) (by decide)

theorem unknownDE (d : Payload) : Statement (.unknownDE d) :=
  fun _ => regLoad 0xDE#8 d (by decide) (by decide)

theorem unknownDF (d : Payload) : Statement (.unknownDF d) :=
  fun _ => regLoad 0xDF#8 d (by decide) (by decide)

theorem unknownE0 (op : Byte) (d : Payload) : Statement (.unknownE0 op d) :=
  fun h => by
    have ho := unknownE0_byte op h
    rw [encode, regLoad op d (by omega) (by omega), decodeRegLoad_unknownE0 op d ho]

theorem mEnd (mf : BitVec 1) (micf : BitVec 6) (mxp : BitVec 9) : Statement (.mEnd mf micf mxp) :=
  fun _ => entry 0#4 mf micf mxp

theorem mRsvd1 (mf : BitVec 1) (micf : BitVec 6) (mxp : BitVec 9) : Statement (.mRsvd1 mf micf mxp) :=
  fun _ => entry 1#4 mf micf mxp

theorem mRsvd2 (mf : BitVec 1) (micf : BitVec 6) (mxp : BitVec 9) : Statement (.mRsvd2 mf micf mxp) :=
  fun _ => entry 2#4 mf micf mxp

theorem mRsvd3 (mf : BitVec 1) (micf : BitVec 6) (mxp : BitVec 9) : Statement (.mRsvd3 mf micf mxp) :=
  fun _ => entry 3#4 mf micf mxp

theorem mIcfA (mf : BitVec 1) (micf : BitVec 6) (mxp : BitVec 9) : Statement (.mIcfA mf micf mxp) :=
  fun _ => entry 4#4 mf micf mxp

theorem mRsvd5 (mf : BitVec 1) (micf : BitVec 6) (mxp : BitVec 9) : Statement (.mRsvd5 mf micf mxp) :=
  fun _ => entry 5#4 mf micf mxp

theorem mIcfB (mf : BitVec 1) (micf : BitVec 6) (mxp : BitVec 9) : Statement (.mIcfB mf micf mxp) :=
  fun _ => entry 6#4 mf micf mxp

theorem mRsvd7 (mf : BitVec 1) (micf : BitVec 6) (mxp : BitVec 9) : Statement (.mRsvd7 mf micf mxp) :=
  fun _ => entry 7#4 mf micf mxp

theorem mClr (mf : BitVec 1) (micf : BitVec 6) (mxp : BitVec 9) : Statement (.mClr mf micf mxp) :=
  fun _ => entry 8#4 mf micf mxp

theorem mSet (mf : BitVec 1) (micf : BitVec 6) (mxp : BitVec 9) : Statement (.mSet mf micf mxp) :=
  fun _ => entry 9#4 mf micf mxp

theorem mRsvdA (mf : BitVec 1) (micf : BitVec 6) (mxp : BitVec 9) : Statement (.mRsvdA mf micf mxp) :=
  fun _ => entry 10#4 mf micf mxp

theorem mRsvdB (mf : BitVec 1) (micf : BitVec 6) (mxp : BitVec 9) : Statement (.mRsvdB mf micf mxp) :=
  fun _ => entry 11#4 mf micf mxp

theorem mIcfAClr (mf : BitVec 1) (micf : BitVec 6) (mxp : BitVec 9) : Statement (.mIcfAClr mf micf mxp) :=
  fun _ => entry 12#4 mf micf mxp

theorem mIcfASet (mf : BitVec 1) (micf : BitVec 6) (mxp : BitVec 9) : Statement (.mIcfASet mf micf mxp) :=
  fun _ => entry 13#4 mf micf mxp

theorem mIcfBClr (mf : BitVec 1) (micf : BitVec 6) (mxp : BitVec 9) : Statement (.mIcfBClr mf micf mxp) :=
  fun _ => entry 14#4 mf micf mxp

theorem mIcfBSet (mf : BitVec 1) (micf : BitVec 6) (mxp : BitVec 9) : Statement (.mIcfBSet mf micf mxp) :=
  fun _ => entry 15#4 mf micf mxp

end Sys2Proof.Laws.RoundTrip
end

