-- ==== Sys2Proof/Laws/Sequencer.lean ====
section
/-! SUPPORT. What a step does in each phase, what a decoded line is, and what the pixels of a position, the cursor and the blink timer change. -/

namespace Sys2Proof.Machine

/-! ## A step by its phase -/

theorem step_idle {s : State} (h : s.phase = .idle) : step s = .next s.idleStep := by simp only [step, h]

theorem step_run {s : State} (h : s.phase = .run) : step s = s.runStep := by simp only [step, h]

theorem step_matte {s : State} (h : s.phase = .matte) : step s = s.matteStep := by simp only [step, h]

theorem step_pixels {s : State} (h : s.phase = .pixels) : step s = .next s.pixelStep := by simp only [step, h]

/-- An idle step with an operation at hand serves it, on the state without the call (46 R290). -/
theorem step_op {s : State} {o : HostOp} {rest : List HostCall} (hp : s.phase = .idle) (hf : s.fault = none)
    (hc : s.calls = .op o :: rest) : step s = .next (({ s with calls := rest } : State).serveOp o) := by
  simp only [step_idle hp, State.idleStep, hc, State.serve, hf]

/-- A run's step ends the run, raises, or executes a DCP word on the state after the fetch (40 R111). -/
theorem runStep_cases (s : State) :
    (s.run.budget ≤ s.run.count ∧ s.runStep = .next (s.endRun .budget 0)) ∨
    (s.run.count < s.run.budget ∧ s.run.pc.toNat % 4 ≠ 0 ∧
      s.runStep = .next (s.raise (.misalignedProgram s.run.ch s.run.pc))) ∨
    (s.run.count < s.run.budget ∧ s.run.pc.toNat % 4 = 0 ∧
      ∃ t, s.runStep = .next t ∧ DcpEffect s.afterFetch t) := by
  unfold State.runStep
  split
  · next h => exact .inl ⟨h, rfl⟩
  · next h =>
    split
    · next h' => exact .inr (.inl ⟨by omega, h', rfl⟩)
    · next h' =>
      obtain ⟨t, ht, he⟩ := exec_dcp s.afterFetch _ (decodeDcp_isMatte s.cfg.enc.dcp s.fetchWord)
      exact .inr (.inr ⟨by omega, by omega, t, ht, he⟩)

/-- A tracker step executes nothing or one matte command, and then moves on unless a fault stands (42 R211). -/
theorem matteStep_cases (s : State) : ∃ t, MatteEffect s t ∧ s.matteStep = .next t.afterMatte := by
  unfold State.matteStep
  cases h : s.reachedMatte with
  | none =>
    exact ⟨s, ⟨rfl, .inl rfl, fun _ => rfl, fun h h' => absurd h h', fun _ => rfl, fun h => h⟩, rfl⟩
  | some c =>
    obtain ⟨t, ht, he⟩ := exec_matte s _ (decodeMatte_isMatte s.cfg.enc.matte c)
    exact ⟨t, he, by simp only [ht]⟩

/-- A run of steps goes on from the state of its first step. -/
theorem core_run_next {s t : State} (h : step s = .next t) (n : Nat) :
    Sys2Proof.core.run (n + 1) s = Sys2Proof.core.run n t := by
  have h' : Sys2Proof.core.step s = .next t := h
  simp only [Host.Core.run, h']

/-! ## Decoded lines (41 R162) -/

/-- What a line decode answers: nothing decoded, a line of the plane's own stream, or an RGB555 line; its run-length lines
come from the item loop. -/
theorem decodePlane_ok {s : State} {p : Plane} {ptrA ptrB : Nat} {r : Decoded}
    (h : s.decodePlane p ptrA ptrB = .ok r) :
    r = s.clearDecode p ∨
    (∃ px n c, px.length = s.decodeWidth p ∧ r = s.decodedFrom p px n c) ∨
    (s.codingMethod p = .rgb555 ∧ r.px = spread (s.dup .b) (s.rgb555 ptrA ptrB)) := by
  have hrl : ∀ m q (r : Decoded), s.decodeRunLength p m q = .ok r →
      ∃ px n c, px.length = s.decodeWidth p ∧ r = s.decodedFrom p px n c := by
    intro m q r hr
    obtain ⟨he, _⟩ := decodeWidth_even s p
    unfold State.decodeRunLength at hr
    split at hr
    · cases hr
    · next r' hr' =>
      cases hr
      refine ⟨r'.1, r'.2, _, ?_, rfl⟩
      split at hr'
      · rcases rlItems_cases s p q 2
          (fun b => [s.pix p m ((b.extractLsb' 4 3).setWidth 8), s.pix p m ((b.extractLsb' 0 3).setWidth 8)])
          (by omega) (fun _ => rfl) (s.decodeWidth p) 0 0 (s.decodeWidth p / 2) (by omega) (by omega) with
          ⟨r'', h1, h2, -, -⟩ | ⟨-, x', n', h1⟩
        · rw [State.rl3, h1] at hr'; cases hr'; omega
        · rw [State.rl3, h1] at hr'; cases hr'
      · rcases rlItems_cases s p q 1 (fun b => [s.pix p m ((b.extractLsb' 0 7).setWidth 8)])
          (by omega) (fun _ => rfl) (s.decodeWidth p) 0 0 (s.decodeWidth p) (by omega) (by omega) with
          ⟨r'', h1, h2, -, -⟩ | ⟨-, x', n', h1⟩
        · rw [State.rl7, h1] at hr'; cases hr'; omega
        · rw [State.rl7, h1] at hr'; cases hr'
  unfold State.decodePlane at h
  dsimp only at h
  split at h
  · split at h
    · cases h
    · cases h; exact .inl rfl
  · split at h
    · cases h; exact .inl rfl
    · split at h
      · cases h
      · split at h
        · split at h
          · cases h
          · cases h
          · exact .inr (.inl (hrl _ _ _ h))
        · split at h
          · cases h; exact .inr (.inl ⟨_, _, _, length_clut4 s p _, rfl⟩)
          · cases h; exact .inr (.inl ⟨_, _, _, length_dyuvLine s p _, rfl⟩)
          · next hm => cases h; exact .inr (.inr ⟨hm, rfl⟩)
          · cases h; exact .inr (.inl ⟨_, _, _, length_clutBytes s p _ _, rfl⟩)

/-- Plane A's methods have no RGB555 (10_state R23). -/
theorem codingMethod_a_ne_rgb555 (s : State) : s.codingMethod .a ≠ .rgb555 := by
  show table0 (icmCmA s.cfg.fields s.regs.icm) ≠ .rgb555
  unfold table0
  split <;> simp

/-- Every decoded line has the line's width (41 R161, R162). -/
theorem decodePlane_length {s : State} {p : Plane} {ptrA ptrB : Nat} {r : Decoded}
    (h : s.decodePlane p ptrA ptrB = .ok r) : r.px.length = s.cfg.width := by
  rcases decodePlane_ok h with rfl | ⟨px, n, c, hl, rfl⟩ | ⟨hm, e⟩
  · simp [State.clearDecode]
  · exact decodedFrom_length s p px n c hl
  · have := decodeWidth_fills s .b
    rw [e, length_spread, length_rgb555]
    exact this

/-! ## The pixels of a position (46 R292) -/

/-- Producing a column changes the two planes' lines and the screen. -/
theorem producePixel_eq (s : State) (x : Nat) :
    s.producePixel x =
      { s with planes := (s.producePixel x).planes, screen := (s.producePixel x).screen } := rfl

/-- A change of the planes and the screen of a state that differs there only. -/
theorem withPixels_congr {s t : State} (h : t = { s with planes := t.planes, screen := t.screen }) (P : AB Grid)
    (S : Grid) : ({ t with planes := P, screen := S } : State) = { s with planes := P, screen := S } := by
  rw [h]

/-- The two columns of a position change the planes and the screen. -/
theorem producePixels_eq (s : State) (x x' : Nat) :
    (s.producePixel x).producePixel x' =
      { s with
        planes := ((s.producePixel x).producePixel x').planes
        screen := ((s.producePixel x).producePixel x').screen } :=
  (producePixel_eq _ _).trans (withPixels_congr (producePixel_eq s x) _ _)

/-- The pixels of a position are followed by the next position or by the end of the line; nothing else changes but the two
planes and the screen (46 R292). -/
theorem pixelStep_cases (s : State) : ∃ t, s.pixelStep = t ∧
    t = { s with
      planes := ((s.producePixel (2 * s.line.k)).producePixel (2 * s.line.k + 1)).planes
      screen := ((s.producePixel (2 * s.line.k)).producePixel (2 * s.line.k + 1)).screen
      line := t.line
      y := t.y
      phase := t.phase
      outputs := t.outputs } ∧
    ((s.line.k + 1 < s.cfg.width / 2 ∧ t.line = { s.line with plane := .a, k := s.line.k + 1 } ∧ t.phase = .matte ∧
        t.y = s.y ∧ t.outputs = s.outputs) ∨
      (s.cfg.width / 2 ≤ s.line.k + 1 ∧ t.line = s.line ∧ t.phase = .idle ∧ t.y = s.y + 1 ∧
        t.outputs = s.outputs ++ [.advanced s.line.usedA s.line.usedB])) := by
  refine ⟨_, rfl, ?_⟩
  unfold State.pixelStep
  have h := producePixels_eq s (2 * s.line.k) (2 * s.line.k + 1)
  generalize (s.producePixel (2 * s.line.k)).producePixel (2 * s.line.k + 1) = u at *
  unfold State.afterPixels
  rw [h]
  dsimp only
  by_cases hk : s.line.k + 1 < s.cfg.width / 2
  · rw [if_pos hk]
    exact ⟨rfl, .inl ⟨hk, rfl, rfl, rfl, rfl⟩⟩
  · rw [if_neg hk]
    exact ⟨rfl, .inr ⟨by omega, rfl, rfl, rfl, rfl⟩⟩

/-- What is composited at a column: the mix, or the overlay, of the two resolved pixels (44 R252 to R255). -/
def State.compositePx (s : State) (x : Nat) : Px :=
  if tcMix s.cfg.fields (s.reg .tc) then mixPx (s.resolvedPx .a x) (s.resolvedPx .b x) (s.factor .a) (s.factor .b)
  else
    let front := poFront s.cfg.fields (s.reg .po)
    overlayPx (padGet Px.clear s.bdstrip s.y) (s.resolvedPx front x) (s.resolvedPx (otherPlane front) x)
      (s.factor front) (s.factor (otherPlane front))

/-- The screen after a column is produced: one pixel of the current line is written. -/
theorem producePixel_screen (s : State) (x : Nat) (ha : GridWide s.cfg.width s.planes.a)
    (hb : GridWide s.cfg.width s.planes.b) (hx : x < s.cfg.width) :
    (s.producePixel x).screen = Grid.write s.cfg.width s.screen s.y x (s.compositePx x) := by
  have h : ∀ p : Plane, ((s.resolve .a x).resolve .b x).planePx p x = s.resolvedPx p x := by
    intro p
    cases p
    · exact (pixelAt_write (g := s.planes.get .a) ha s.y x s.y x _ hx).trans (if_pos ⟨rfl, rfl⟩)
    · exact (pixelAt_write (g := s.planes.get .b) hb s.y x s.y x _ hx).trans (if_pos ⟨rfl, rfl⟩)
  simp only [State.producePixel, State.composite, State.mix, State.overlay, h]
  rfl

/-- Producing a column keeps the buffers' widths. -/
theorem producePixel_wide (s : State) (x : Nat) (hs : GridWide s.cfg.width s.screen)
    (ha : GridWide s.cfg.width s.planes.a) (hb : GridWide s.cfg.width s.planes.b) :
    GridWide s.cfg.width (s.producePixel x).screen ∧ GridWide s.cfg.width (s.producePixel x).planes.a ∧
      GridWide s.cfg.width (s.producePixel x).planes.b :=
  ⟨write_wide hs _ _ _, write_wide ha _ _ _, write_wide hb _ _ _⟩

theorem scalePx_opaque (f : BitVec 6) (px : Px) : (scalePx f px).a = 255 := rfl

/-- A composited pixel is opaque over an opaque backdrop (44 R255). -/
theorem compositePx_opaque (s : State) (x : Nat) (h : (padGet Px.clear s.bdstrip s.y).a = 255) :
    (s.compositePx x).a = 255 := by
  unfold State.compositePx
  split
  · rfl
  · unfold overlayPx
    dsimp only
    split
    · exact h
    · split <;> rfl

/-! ## The cursor and the blink timer (45) -/

theorem drawCursor_eq (s : State) : s.drawCursor = { s with screen := s.drawCursor.screen } := by
  unfold State.drawCursor; split <;> rfl

theorem blinkTick_eq (s : State) : s.blinkTick = { s with cvis := s.blinkTick.cvis, ccount := s.blinkTick.ccount } := by
  unfold State.blinkTick
  split
  · rfl
  · dsimp only
    generalize (if s.cvis = true then s.cursorOn else s.cursorOff) * s.cfg.blinkUnit = n
    split <;> rfl

/-- The cursor's colour is opaque (45 R271). -/
theorem cursorColour_opaque (s : State) : s.cursorColour.a = 255 := rfl

/-- Painting keeps the buffer's width. -/
theorem paint_wide {w : Nat} (col : Px) : ∀ (cells : List (Nat × Nat)) {g : Grid}, GridWide w g →
    GridWide w (paint w col g cells)
  | [], _, h => h
  | q :: rest, _, h => paint_wide col rest (write_wide h q.1 q.2 col)

/-- A painted position takes the colour; every other keeps its pixel. -/
theorem pixelAt_paint {w : Nat} (col : Px) : ∀ (cells : List (Nat × Nat)) {g : Grid}, GridWide w g →
    (∀ q ∈ cells, q.2 < w) → ∀ y x, Grid.pixelAt w (paint w col g cells) y x =
      if (y, x) ∈ cells then col else Grid.pixelAt w g y x
  | [], _, _, _, _, _ => by simp [paint]
  | q :: rest, g, h, hq, y, x => by
    rw [paint, pixelAt_paint col rest (write_wide h _ _ _) (fun r hr => hq r (List.mem_cons_of_mem _ hr)),
      pixelAt_write h _ _ _ _ _ (hq q (List.mem_cons_self ..))]
    by_cases h1 : (y, x) ∈ rest
    · simp [h1]
    · by_cases h2 : (y, x) = q
      · simp [← h2]
      · have : ¬(y = q.1 ∧ x = q.2) := fun e => h2 (Prod.ext e.1 e.2)
        simp [h1, h2, this]

/-- The cells the cursor covers (45 R270, R274, R275). -/
theorem mem_cursorCells (s : State) (y x : Nat) :
    (y, x) ∈ s.cursorCells ↔
      ∃ r < 16, ∃ c < 16, s.cursorBit r c = true ∧ y = s.cursorY + r ∧
        x ∈ cursorColumns s.cfg.displayRes s.cursorX c ∧ y < s.cfg.height ∧ x < s.cfg.width := by
  simp only [State.cursorCells, List.mem_flatMap, List.mem_range]
  constructor
  · rintro ⟨r, hr, c, hc, h⟩
    split at h
    · next hb =>
      simp only [List.mem_filter, List.mem_map, Bool.and_eq_true, decide_eq_true_eq, Prod.mk.injEq] at h
      obtain ⟨⟨xx, hxx, rfl, rfl⟩, h1, h2⟩ := h
      exact ⟨r, hr, c, hc, hb, rfl, hxx, h1, h2⟩
    · cases h
  · rintro ⟨r, hr, c, hc, hb, rfl, hxx, h1, h2⟩
    refine ⟨r, hr, c, hc, ?_⟩
    rw [if_pos hb]
    simp only [List.mem_filter, List.mem_map, Bool.and_eq_true, decide_eq_true_eq, Prod.mk.injEq]
    exact ⟨⟨x, hxx, by simp⟩, h1, h2⟩

end Sys2Proof.Machine
end

