-- ==== Sys2Proof/Tests/Slice0.lean ====
section
/-! SUPPORT. Tests: the smoke test of WellFormed, a decoded word for every constructor, single steps with the values of spec/95_test_vectors.md and of the rules' examples, and for every statement with hypotheses a state that meets them. -/

namespace Sys2Proof.Tests

-- one theorem at a time, so that the tests compile in little memory
set_option Elab.async false

open Sys2Proof Sys2Proof.Machine

/-! ## WellFormed -/

/-- The row 0xE0 to 0xFF does not admit an opcode byte below 0xE0 (30_encoding R84). -/
theorem test_wellformed_refuses_low_unknown_byte : (Instr.unknownE0 0xDF 0).wellFormed = false := by decide

theorem test_wellformed_admits_last_class_bounds :
    (Instr.unknownE0 0xE0 0).wellFormed = true ∧ (Instr.unknownE0 0xFF 0).wellFormed = true := by decide

/-! ## Decoding, words written out from 30_encoding R80 to R84, R97, R98 -/

/-- Control words (R82), with the payloads of the examples of 40 R113 to R120; the ignored nibble is kept. -/
theorem test_decode_control :
    decodeTableWord 32 0x00000000 = some (.stop 0 0) ∧
    decodeTableWord 32 0x1A000001 = some (.nop 0xA 1) ∧
    decodeTableWord 32 0x20000400 = some (.reloadDcp 0 0x000400) ∧
    decodeTableWord 32 0x30000800 = some (.reloadDcpStop 0 0x000800) ∧
    decodeTableWord 32 0x40012340 = some (.reloadVsr 0 0x012340) ∧
    decodeTableWord 32 0x50012340 = some (.reloadVsrStop 0 0x012340) ∧
    decodeTableWord 32 0x60ABCDEF = some (.signal 0 0xABCDEF) ∧
    decodeTableWord 32 0x7F000100 = some (.loadDp 0xF 0x000100) := by decide +kernel

/-- CLUT and matte loads with their offsets at both ends of the ranges (R81). -/
theorem test_decode_ranges :
    decodeTableWord 32 0x80000001 = some (.loadClut 0 1) ∧
    decodeTableWord 32 0x8512AB34 = some (.loadClut 5 0x12AB34) ∧
    decodeTableWord 32 0xBF123456 = some (.loadClut 63 0x123456) ∧
    decodeTableWord 32 0xD0408004 = some (.loadMatte 0 0x408004) ∧
    decodeTableWord 32 0xD7ABCDEF = some (.loadMatte 7 0xABCDEF) := by decide +kernel

/-- Register loads (R83), with the words of the examples of 40 R122 to R140. -/
theorem test_decode_register_loads :
    decodeTableWord 32 0xC000000B = some (.loadIcm 0x00000B) ∧
    decodeTableWord 32 0xC1800808 = some (.loadTc 0x800808) ∧
    decodeTableWord 32 0xC2000001 = some (.loadPo 0x000001) ∧
    decodeTableWord 32 0xC3000002 = some (.loadBank 0x000002) ∧
    decodeTableWord 32 0xC4FF00FF = some (.loadTcolA 0xFF00FF) ∧
    decodeTableWord 32 0xC6000000 = some (.loadTcolB 0) ∧
    decodeTableWord 32 0xC7030303 = some (.loadMcolA 0x030303) ∧
    decodeTableWord 32 0xC9000000 = some (.loadMcolB 0) ∧
    decodeTableWord 32 0xCA108080 = some (.loadDyuvA 0x108080) ∧
    decodeTableWord 32 0xCB108080 = some (.loadDyuvB 0x108080) ∧
    decodeTableWord 32 0xCD00A064 = some (.loadCurpos 0x00A064) ∧
    decodeTableWord 32 0xCE80000F = some (.loadCurctl 0x80000F) ∧
    decodeTableWord 32 0xCF03F00F = some (.loadCurpat 0x03F00F) ∧
    decodeTableWord 32 0xD800000C = some (.loadBackdrop 0x00000C) ∧
    decodeTableWord 32 0xD9800004 = some (.loadMosaicA 0x800004) ∧
    decodeTableWord 32 0xDA000000 = some (.loadMosaicB 0) ∧
    decodeTableWord 32 0xDB00003F = some (.loadIcfA 0x00003F) ∧
    decodeTableWord 32 0xDC000000 = some (.loadIcfB 0) := by decide +kernel

/-- Unknown bytes (R84, 40 R141). -/
theorem test_decode_unknown :
    decodeTableWord 32 0xC5000000 = some (.unknownC5 0) ∧
    decodeTableWord 32 0xC8000001 = some (.unknownC8 1) ∧
    decodeTableWord 32 0xCC000002 = some (.unknownCC 2) ∧
    decodeTableWord 32 0xDD000003 = some (.unknownDD 3) ∧
    decodeTableWord 32 0xDE000004 = some (.unknownDE 4) ∧
    decodeTableWord 32 0xDF000005 = some (.unknownDF 5) ∧
    decodeTableWord 32 0xE0123456 = some (.unknownE0 0xE0 0x123456) ∧
    decodeTableWord 32 0xFF000000 = some (.unknownE0 0xFF 0) := by decide +kernel

/-- Matte entries (R97, R98): opcode in 23:20, flag number in 16, factor in 15:10, X position in 9:1. -/
theorem test_decode_matte :
    decodeTableWord 24 0x000000 = some (.mEnd 0 0 0) ∧
    decodeTableWord 24 0x100002 = some (.mRsvd1 0 0 1) ∧
    decodeTableWord 24 0x200400 = some (.mRsvd2 0 1 0) ∧
    decodeTableWord 24 0x310000 = some (.mRsvd3 1 0 0) ∧
    decodeTableWord 24 0x408004 = some (.mIcfA 0 32 2) ∧
    decodeTableWord 24 0x5003FE = some (.mRsvd5 0 0 511) ∧
    decodeTableWord 24 0x601406 = some (.mIcfB 0 5 3) ∧
    decodeTableWord 24 0x70FC00 = some (.mRsvd7 0 63 0) ∧
    decodeTableWord 24 0x800002 = some (.mClr 0 0 1) ∧
    decodeTableWord 24 0x910002 = some (.mSet 1 0 1) ∧
    decodeTableWord 24 0xA00000 = some (.mRsvdA 0 0 0) ∧
    decodeTableWord 24 0xB00000 = some (.mRsvdB 0 0 0) ∧
    decodeTableWord 24 0xC02804 = some (.mIcfAClr 0 10 2) ∧
    decodeTableWord 24 0xD02804 = some (.mIcfASet 0 10 2) ∧
    decodeTableWord 24 0xE15002 = some (.mIcfBClr 1 20 1) ∧
    decodeTableWord 24 0xF1FCC8 = some (.mIcfBSet 1 63 100) := by decide +kernel

/-- A word's first byte is its opcode byte (20_memory R63). -/
theorem test_decode_byte_order : decode defaultEncoding [0xC1, 0x80, 0x08, 0x08] = .ok (.loadTc 0x800808) := rfl

theorem test_decode_rejects_other_lengths : decode defaultEncoding [0xC1, 0x80] = .error (.badLength 2) := rfl

/-! ## Small states -/

/-- The conventions of 95 section 0, with `P_WD = 4`, `P_H = 2` and a region of 256 bytes. -/
def cfg4 : Config where
  enc := defaultEncoding
  fields := defaultFieldLayout
  yuv := .standard
  widthQuads := 0
  heightPred := 1
  regionLog2 := 8
  displayRes := .normal
  intLine := ⟨1, 2⟩
  chAWritesB := false
  signalStops := true
  dequant := defaultDequant
  rgb5 := defaultRgb5
  rlOverrun := .clamp
  matteReserved := .log
  keyMask := 0x3F3F3F
  bdFull := 255
  bdHalf := 128
  cursor := defaultCursorLayout
  blinkUnitPred := 0

/-- The same with `P_WD = 8`. -/
def cfg8 : Config := { cfg4 with widthQuads := 1 }

/-- The start state of 95 section 0. -/
def start : State := { State.reset with cfg := cfg4, intDisable := ⟨false, false⟩ }

/-- The same with the codes of STOP and NOP exchanged and LOAD_TC's opcode byte 0xC5 instead of 0xC1 (00_scope R7). -/
def cfgMapped : Config :=
  { cfg4 with enc := ⟨⟨#v[.nop, .stop, .reloadDcp, .reloadDcpStop, .reloadVsr, .reloadVsrStop, .signal, .loadDp],
    defaultDcpMaps.reg.set 1 0xC5⟩, defaultMatteLayout⟩ }

/-- A run of channel `ch` that has just fetched the word at address 0. -/
def running (ch : Channel) : State := { start with phase := .run, run := ⟨ch, 4, 8, 1, false⟩ }

/-- A run of channel A about to fetch the word at `pc`, over a region that holds the bytes of `words` from address 0. -/
def fetching (pc : Word) (words : List Byte) : State :=
  { start.writeBytes 0 words with phase := .run, run := ⟨.a, pc, 8, 0, false⟩ }

/-- The tracker of plane `p` about to step at position `k`, its pointer at entry 0, which holds `c`. -/
def tracking (p : Plane) (k : Nat) (c : Payload) : State :=
  { start with
    cfg := cfg8
    matte := start.matte.set 0 c
    mptr := ⟨some 0, some 0⟩
    phase := .matte
    line := ⟨p, k, ⟨[], []⟩, 0, 0⟩ }

/-- The start state with one pending call. -/
def calling (o : HostOp) : State := { start with calls := [.op o] }

/-- A field of the next state, where there is one. -/
def nextField {α : Type} (o : Outcome) (f : State → α) : Option α :=
  match o with
  | .next s => some (f s)
  | _ => none

/-! ## Steps of instructions -/

/-- 95 row 2.7: the STOP ends the run with its payload; the pc is past it and one word more is counted. -/
theorem test_stop : nextField (exec (.stop 0 0x123) (running .a)) (fun t => (t.phase, t.outputs)) =
    some (.idle, [.ran ⟨.stop, 0x123, false, 4, 1⟩]) := by decide +kernel

theorem test_nop_keeps_running : nextField (exec (.nop 0 5) (running .a)) (fun t => (t.phase, t.outputs)) =
    some (.run, []) := by decide +kernel

/-- 95 rows 2.21 and 2.22, and the examples of 40 R116 and R117. -/
theorem test_reloads :
    nextField (exec (.reloadDcp 0 0x1234) (running .a)) State.outputs = some [.ran ⟨.reloadDcp, 0x1234, false, 4, 1⟩] ∧
    nextField (exec (.reloadDcpStop 0 0x800) (running .a)) State.outputs =
      some [.ran ⟨.reloadDcpStop, 0x800, false, 4, 1⟩] ∧
    nextField (exec (.reloadVsr 0 0x12340) (running .a)) State.outputs =
      some [.ran ⟨.reloadVsr, 0x12340, false, 4, 1⟩] ∧
    nextField (exec (.reloadVsrStop 0 0x2000) (running .a)) State.outputs =
      some [.ran ⟨.reloadVsrStop, 0x2000, false, 4, 1⟩] := by decide +kernel

/-- 95 rows 2.3 and 2.4, and the example of 40 R119 on channel B. -/
theorem test_signal :
    nextField (exec (.signal 0 0xABCDEF) (running .b)) State.outputs =
      some [.interrupt 2, .ran ⟨.signal, 0xABCDEF, true, 4, 1⟩] ∧
    nextField (exec (.signal 0 0xABCDEF) { running .a with intDisable := ⟨true, false⟩ }) State.outputs =
      some [.ran ⟨.signal, 0xABCDEF, true, 4, 1⟩] := by decide +kernel

/-- 95 row 2.5: without `P_SIGNAL_STOPS` the run goes on with `irq` set. -/
theorem test_signal_goes_on :
    nextField (exec (.signal 0 0xABCDEF) { running .a with cfg := { cfg4 with signalStops := false } })
      (fun t => (t.phase, t.run.irq, t.outputs)) = some (.run, true, [.interrupt 1]) := by decide +kernel

/-- 95 rows 2.11 and 2.12. -/
theorem test_load_dp :
    nextField (exec (.loadDp 0 0x00000E) (running .a)) (fun t => (t.dp.a, t.dp.b)) =
      some (⟨.runLength, 16, .normal8, 0x00E⟩, DisplayParams.zero) ∧
    nextField (exec (.loadDp 0 0x0001FF) (running .b)) (fun t => (t.dp.a, t.dp.b)) =
      some (DisplayParams.zero, ⟨.mosaic, 16, .double4, 0x10F⟩) := by decide +kernel

/-- 95 row 2.10: the record names the word at address 0. -/
theorem test_load_dp_reserved :
    nextField (exec (.loadDp 0 0x000300) (running .a)) (fun t => (t.fault, t.phase, t.dp.a)) =
      some (some (.reservedBpp (.program .a 0x70000300 0)), .idle, DisplayParams.zero) := by decide +kernel

/-- 95 rows 2.8 and 2.9: bank 2 from channel B writes entry 133; bank 1 writes nothing and logs nothing. -/
theorem test_load_clut :
    nextField (exec (.loadClut 5 0x12AB34) ((running .b).setReg .clutBank 2)) (fun t => t.clutAt 133) =
      some 0x12AB34 ∧
    nextField (exec (.loadClut 5 0x12AB34) ((running .b).setReg .clutBank 1)) (fun t => (t.clutAt 69, t.log)) =
      some (0, []) := by decide +kernel

theorem test_load_clut_channel_a :
    nextField (exec (.loadClut 63 0x123456) ((running .a).setReg .clutBank 3)) (fun t => t.clutAt 255) =
      some 0x123456 := by decide +kernel

/-- 95 rows 2.14 and 2.16: the register is written all the same. -/
theorem test_load_icm_logs_combinations :
    nextField (exec (.loadIcm 0x000101) (running .a)) (fun t => (t.reg .icm, t.log)) =
      some (0x000101, [.disallowedCombination .clut8 .rgb555, .disallowedCombination .clut8 .rgb555]) ∧
    nextField (exec (.loadIcm 0x000B04) (running .a)) State.log = some [.disallowedCombination .clut77 .clut4] ∧
    nextField (exec (.loadIcm 0x000503) (running .a)) State.log = some [] := by decide +kernel

/-- The tables of 10_state R23, code by code. -/
theorem test_coding_method_tables :
    (List.range 16).map (fun c => table0 (BitVec.ofNat 4 c)) =
      [.off, .clut8, .off, .clut7, .clut77, .dyuv, .off, .off, .off, .off, .off, .clut4, .off, .off, .off, .off] ∧
    (List.range 16).map (fun c => table1 (BitVec.ofNat 4 c)) =
      [.off, .rgb555, .off, .clut7, .off, .dyuv, .off, .off, .off, .off, .off, .clut4, .off, .off, .off, .off] := by
  decide +kernel

/-- 41 R167: CLUT4 takes four bits and plane B the upper half; `CS` moves CLUT7+7 alone. -/
theorem test_clut_index :
    clutIndex false .b .clut4 0xFB = 139 ∧ clutIndex true .a .clut77 0x85 = 133 ∧ clutIndex true .a .clut7 0x85 = 5 ∧
    clutIndex true .a .clut8 0x85 = 0x85 ∧ clutIndex false .b .clut7 0x85 = 133 := by decide +kernel

/-- 95 row 2.18. -/
theorem test_channel_b_is_refused :
    nextField (exec (.loadIcm 0x000001) (running .b)) (fun t => (t.reg .icm, t.log)) =
      some (0, [.channelNotPermitted .b 0xC0]) ∧
    nextField (exec (.loadTc 0x000008) (running .b)) (fun t => (t.reg .tc, t.log)) =
      some (0, [.channelNotPermitted .b 0xC1]) := by decide +kernel

/-- The examples of 40 R123 to R126, R128, R130, R132, R133, R136, R137 and R139, on channel A. -/
theorem test_channel_a_loads :
    nextField (exec (.loadTc 0x800808) (running .a)) (fun t => t.reg .tc) = some 0x800808 ∧
    nextField (exec (.loadPo 1) (running .a)) (fun t => t.reg .po) = some 1 ∧
    nextField (exec (.loadTcolA 0xFF00FF) (running .a)) (fun t => t.reg (.tcol .a)) = some 0xFF00FF ∧
    nextField (exec (.loadMcolA 0x030303) (running .a)) (fun t => t.reg (.mcol .a)) = some 0x030303 ∧
    nextField (exec (.loadDyuvA 0x108080) (running .a)) (fun t => t.reg (.dyuv .a)) = some 0x108080 ∧
    nextField (exec (.loadCurpos 0x00A064) (running .a)) (fun t => (t.cursorX, t.cursorY)) = some (100, 10) ∧
    nextField (exec (.loadCurctl 0x80000F) (running .a)) (fun t => (t.cursorEnable, t.cursorOff, t.cursorColour)) =
      some (true, 0, ⟨255, 255, 255, 255⟩) ∧
    nextField (exec (.loadBackdrop 0x00000C) (running .a)) State.backdropPx = some ⟨255, 255, 0, 0⟩ ∧
    nextField (exec (.loadMosaicA 0x800004) (running .a)) (fun t => t.reg (.mosaic .a)) = some 0x800004 ∧
    nextField (exec (.loadIcfA 0x3F) (running .a)) (fun t => t.factor .a) = some 63 := by decide +kernel

/-- The loads of plane B, permitted on channel B and refused on channel A (40 R112, R127, R129, R131, R138, R140). -/
theorem test_channel_b_loads :
    nextField (exec (.loadTcolB 0x010203) (running .b)) (fun t => t.reg (.tcol .b)) = some 0x010203 ∧
    nextField (exec (.loadMcolB 7) (running .b)) (fun t => t.reg (.mcol .b)) = some 7 ∧
    nextField (exec (.loadDyuvB 0x108080) (running .b)) (fun t => t.reg (.dyuv .b)) = some 0x108080 ∧
    nextField (exec (.loadMosaicB 9) (running .b)) (fun t => t.reg (.mosaic .b)) = some 9 ∧
    nextField (exec (.loadIcfB 0x3F) (running .b)) (fun t => t.factor .b) = some 63 ∧
    nextField (exec (.loadIcfB 0x3F) (running .a)) (fun t => (t.factor .b, t.log)) =
      some (0, [.channelNotPermitted .a 0xDC]) ∧
    nextField (exec (.loadBank 2) (running .b)) (fun t => t.reg .clutBank) = some 2 := by decide +kernel

/-- 95 rows 2.19 and 2.20. -/
theorem test_load_tables :
    nextField (exec (.loadMatte 7 0xABCDEF) (running .b)) (fun t => (t.matteAt 7, t.matteAt 6)) =
      some (0xABCDEF, 0) ∧
    nextField (exec (.loadCurpat 0x05ABCD) (running .a)) (fun t => (t.curpatAt 5, t.curpatAt 4)) =
      some (0xABCD, 0) := by decide +kernel

/-- 95 row 2.17. -/
theorem test_unknown_logs :
    nextField (exec (.unknownC5 0) (running .a)) State.log = some [.unknownOpcode 0xC5] ∧
    nextField (exec (.unknownE0 0xFF 0) (running .a)) State.log = some [.unknownOpcode 0xFF] := by decide +kernel

/-- 95 section 6: the factor of the named plane, the flag of the stepping plane, the advance. -/
theorem test_matte_factor_and_flag :
    nextField (exec (.mIcfB 0 5 3) (tracking .a 3 0x601406)) (fun t => (t.factor .b, t.mptr)) =
      some (5, ⟨some 1, some 0⟩) ∧
    nextField (exec (.mSet 1 0 2) (tracking .b 2 0x910004)) (fun t => (t.mflag.a, t.mflag.b, t.mptr)) =
      some (⟨false, false⟩, ⟨false, true⟩, ⟨some 0, some 1⟩) ∧
    nextField (exec (.mIcfBSet 1 20 1) (tracking .b 1 0xF15002)) (fun t => (t.factor .b, t.mflag.b)) =
      some (20, ⟨false, true⟩) ∧
    nextField (exec (.mEnd 0 0 0) (tracking .a 0 0)) (fun t => t.mptr) = some ⟨none, some 0⟩ := by decide +kernel

/-- 95 section 6.3: a flag that is set is cleared with the factor write, in the same step. -/
theorem test_matte_combined_clear :
    nextField (exec (.mIcfAClr 0 10 2) { tracking .a 2 0xC02804 with mflag := ⟨⟨true, true⟩, ⟨true, true⟩⟩ })
      (fun t => (t.factor .a, t.mflag)) = some (10, ⟨⟨false, true⟩, ⟨true, true⟩⟩) := by decide +kernel

/-- 95 section 6.4: a reserved opcode is logged and skipped, or faults. -/
theorem test_matte_reserved :
    nextField (exec (.mRsvd1 0 0 1) (tracking .a 1 0x100002)) (fun t => (t.log, t.mptr.a, t.fault)) =
      some ([.reservedMatteOp .a 1], some 1, none) ∧
    nextField (exec (.mRsvd1 0 0 1) { tracking .a 1 0x100002 with cfg := { cfg8 with matteReserved := .fault } })
      (fun t => (t.log, t.mptr.a, t.fault)) = some ([], some 0, some (.reservedMatteOp .a (some 0) 1 0)) := by
  decide +kernel

/-- 95 section 6.4: the pointer becomes END at the limit, and 42 R211: an entry not yet reached waits. -/
theorem test_matte_limit_and_wait :
    nextField (exec (.mSet 0 0 0) { tracking .a 7 0 with mptr := ⟨some 7, none⟩ }) (fun t => t.mptr.a) = some none ∧
    nextField (step (tracking .a 0 0x900002)) (fun t => (t.mptr.a, t.line.plane)) = some (some 0, .b) ∧
    nextField (step (tracking .a 1 0x900002)) (fun t => (t.mptr.a, t.mflag.a.f0)) = some (some 1, true) := by
  decide +kernel

/-! ## Steps of the machine -/

/-- 95 row 2.7 in a region of 256 bytes: the pc wraps modulo the region size. -/
theorem test_fetch_wraps :
    nextField (step (({ fetching 252 [] with region := [(252, 0x10)] }))) (fun t => (t.run.pc, t.run.count, t.phase)) =
      some (0, 1, .run) := by decide +kernel

/-- With other maps of the opcodes (00_scope R7) the words mean what those maps say: 0xC5 loads TC, 0xC1 is unknown, and
kind 1 stops. -/
theorem test_fetch_follows_the_maps :
    nextField (step { fetching 0 [0xC5, 0x80, 0x08, 0x08] with cfg := cfgMapped }) (fun t => t.reg .tc) = some 0x800808 ∧
    nextField (step { fetching 0 [0xC1, 0, 0, 5] with cfg := cfgMapped }) (fun t => (t.reg .tc, t.log)) =
      some (0, [.unknownOpcode 0xC1]) ∧
    nextField (step { fetching 0 [0x10, 0, 0, 5] with cfg := cfgMapped }) State.outputs =
      some [.ran ⟨.stop, 5, false, 4, 1⟩] := by decide +kernel

/-- 95 row 2.6. -/
theorem test_misaligned_program :
    nextField (step (fetching 2 [0x10])) State.fault = some (some (.misalignedProgram .a 2)) := by decide +kernel

/-- A word placed by `withFetchWord` at reset is the one the next step runs, and so is a matte command. -/
theorem test_withFetchWord :
    nextField (step (State.reset.withFetchWord 32 0xC1800808)) (fun t => t.reg .tc) = some 0x800808 ∧
    nextField (step (State.reset.withFetchWord 24 0x408004)) (fun t => t.reg (.icf .a)) = some 32 := by decide +kernel

/-- 95 row 8.1. -/
theorem test_reset :
    nextField (step { (calling .reset) with
        regs := { Regs.zero with icm := 0x4C0B01, curctl := 0x80110F, clutBank := 2, tc := 0x800808 }
        y := 1
        cvis := false
        ccount := 3 })
      (fun t => ([t.reg .icm, t.reg .curctl, t.reg .clutBank, t.reg .tc], t.y, t.cvis, t.ccount)) =
      some ([0x4C0000, 0x00110F, 2, 0x800808], 0, true, 0) := by decide +kernel

/-- 95 rows 8.6, 8.7 and 8.9. -/
theorem test_host_faults :
    nextField (step { (calling (.advanceScanline 0 0)) with y := 2 }) State.fault = some (some (.frameOverrun 2)) ∧
    nextField (step { (calling .finalizeFrame) with y := 1 }) State.fault = some (some (.frameIncomplete 1)) ∧
    nextField (step (calling (.readClut 256))) State.fault = some (some (.indexOutOfRange .clut 256)) := by
  decide +kernel

/-- 95 section 7.1, first row: CON 2, COFF 1. -/
theorem test_blink :
    (((start.setReg .curctl 0x002100).blinkTick).cvis, ((start.setReg .curctl 0x002100).blinkTick).ccount) = (true, 1) ∧
    (((start.setReg .curctl 0x002100).blinkTick).blinkTick.cvis,
      ((start.setReg .curctl 0x002100).blinkTick).blinkTick.ccount) = (false, 0) := by decide +kernel

/-! ## Pixels -/

/-- 95 section 3.2, row 1: the word 1234 after seed 108080. -/
theorem test_dyuv_word : dyuvWord defaultDequant .standard 0x1234 ⟨16, 128, 128⟩ =
    (⟨255, 25, 18, 20⟩, ⟨255, 48, 30, 37⟩, ⟨36, 129, 137⟩) := by decide +kernel

/-- 95 section 3.3, rows FC1F and 7FFF. -/
theorem test_rgb555 : rgb555Px defaultFieldLayout defaultRgb5 0xFC1F = ⟨255, 248, 0, 248⟩ ∧
    rgb555Px defaultFieldLayout defaultRgb5 0x7FFF = ⟨0, 248, 248, 248⟩ := by decide +kernel

/-- A state whose region starts with `bs` and whose CLUT holds `CLUT[i] = 0x010101 * i` for `i < 16` (95 section 3.4). -/
def greyClut (bs : List Byte) : State :=
  { fetching 0 bs with clut := Vector.ofFn fun i => if i.val < 16 then BitVec.ofNat 24 (0x010101 * i.val) else 0 }

/-- The grey levels of decoded pixels and the bytes consumed, where the decode did not fault. -/
def levels (r : Except Fault (Line × Nat)) : Option (List Nat × Nat) :=
  match r with
  | .ok x => some (x.1.map fun q => q.r.toNat, x.2)
  | .error _ => none

/-- 95 section 3.4, rows 4 (before duplication), 6 and 8. -/
theorem test_run_length :
    levels ((greyClut [0x83, 0x01, 0x84, 0x00]).rl7 .a .clut8 0) = some ([3, 4], 4) ∧
    levels (({ greyClut [0x12, 0xF1, 0x00] with
      cfg := cfg8, dp := ⟨⟨.runLength, 2, .double4, 0x102⟩, DisplayParams.zero⟩ } : State).rl3 .a .clut8 0) =
      some ([1, 2, 7, 1, 7, 1, 7, 1], 3) ∧
    levels (({ greyClut [0xA5, 0x05] with cfg := { cfg4 with rlOverrun := .fault } } : State).rl3 .a .clut8 0) = none := by
  decide +kernel

/-- 41 R176: a run of 3 where 2 pixels are left is clamped, and its bytes are consumed. -/
theorem test_run_length_clamp : levels ((greyClut [0x85, 0x03]).rl7 .a .clut8 0) = some ([5, 5], 2) := by decide +kernel

/-- 95 section 5.1. -/
theorem test_scale : scale 62 0 = 1 ∧ scale 32 200 = 109 ∧ scale 32 80 = 48 ∧ scale 16 0 = 12 ∧ scale 1 0 = 16 := by
  decide +kernel

/-- 95 section 5.3. -/
theorem test_mix :
    mixPx ⟨255, 255, 0, 128⟩ ⟨255, 128, 255, 0⟩ 32 32 = ⟨255, 193, 129, 64⟩ ∧
    mixPx ⟨255, 200, 100, 50⟩ ⟨0, 1, 2, 3⟩ 32 9 = ⟨255, 109, 58, 33⟩ := by decide +kernel

/-- 95 section 5.2: B in front. -/
theorem test_overlay :
    overlayPx Px.clear ⟨255, 200, 100, 50⟩ ⟨255, 10, 20, 30⟩ 32 63 = ⟨255, 109, 58, 33⟩ ∧
    overlayPx Px.clear ⟨0, 200, 100, 50⟩ ⟨255, 10, 20, 30⟩ 32 63 = ⟨255, 10, 20, 30⟩ := by decide +kernel

/-- 95 section 4: the colour-key examples with the default mask. -/
theorem test_colour_key :
    colourKey defaultFieldLayout 0x3F3F3F 0x102030 ⟨255, 0x50, 0x60, 0x70⟩ = true ∧
    colourKey defaultFieldLayout 0x3F3F3F 0x102030 ⟨255, 0x10, 0x20, 0x31⟩ = false := by decide +kernel

/-! ## States that meet the hypotheses of the statements -/

/-- An opaque pixel. -/
def grey : Px := ⟨255, 9, 9, 9⟩

/-- The last position of the last line of a frame of 4 by 2 pixels, about to produce its pixels. -/
def lastPosition : State :=
  { start with
    phase := .pixels
    y := 1
    line := ⟨.b, 1, ⟨List.replicate 4 grey, List.replicate 4 Px.clear⟩, 2, 0⟩
    bdstrip := [grey, grey]
    screen := [List.replicate 4 grey, [grey, grey, Px.clear, Px.clear]] }

/-- A complete frame with a pending FinalizeFrame, and a cursor of one set pixel at column 0 of line 0. -/
def completeFrame : State :=
  { calling .finalizeFrame with
    y := 2
    screen := [List.replicate 4 grey, List.replicate 4 grey]
    regs := { Regs.zero with curctl := 0x80000F }
    curpat := start.curpat.set 0 0x8000 }

theorem witness_inv_lastPosition : lastPosition.Inv where
  region := rfl
  dp p := by cases p <;> rfl
  pointer p i h := by cases p <;> cases h
  width l h := by
    have h' : l = List.replicate 4 grey ∨ l = [grey, grey, Px.clear, Px.clear] := by
      simpa [lastPosition, start, State.reset, State.powerOn] using h
    rcases h' with rfl | rfl <;> rfl
  lineCount := by decide
  quiet h := absurd rfl h
  inLine _ := ⟨by decide, by decide, fun p => by cases p <;> rfl, rfl⟩
  pixelsAfterB _ := rfl
  screenOpaque l x hx h := by
    have hx' : x < 4 := hx
    rcases h with h | ⟨h, -, hk⟩
    · have h0 : l = 0 := Nat.lt_one_iff.mp h
      subst h0; interval_cases x <;> rfl
    · have hk' : x < 2 := hk
      have h1 : l = 1 := h
      subst h1; interval_cases x <;> rfl

theorem witness_inv_completeFrame : completeFrame.Inv where
  region := rfl
  dp p := by cases p <;> rfl
  pointer p i h := by cases p <;> cases h
  width l h := by
    have h' : l = List.replicate 4 grey := by
      simpa [completeFrame, calling, start, State.reset, State.powerOn] using h
    rw [h']; rfl
  lineCount := by decide
  quiet h := absurd rfl h
  inLine h := by rcases h with h | h <;> cases h
  pixelsAfterB h := by cases h
  screenOpaque l x hx h := by
    have hx' : x < 4 := hx
    rcases h with h | ⟨-, h | h, -⟩
    · have hl : l < 2 := h
      interval_cases l <;> interval_cases x <;> rfl
    · cases h
    · cases h

/-- Both ends of every opcode range, and a byte with and without a load in another map. -/
theorem witness_DcpOpcodeByteSelectsTheInstruction :
    (0x00 : Byte).toNat < 0x80 ∧ (0x7F : Byte).toNat < 0x80 ∧
    0x80 ≤ (0x80 : Byte).toNat ∧ (0x80 : Byte).toNat ≤ 0xBF ∧ 0x80 ≤ (0xBF : Byte).toNat ∧ (0xBF : Byte).toNat ≤ 0xBF ∧
    0xD0 ≤ (0xD0 : Byte).toNat ∧ (0xD0 : Byte).toNat ≤ 0xD7 ∧ 0xD0 ≤ (0xD7 : Byte).toNat ∧ (0xD7 : Byte).toNat ≤ 0xD7 ∧
    (0x7F : Byte).toNat / 16 = (7 : Fin 8).val ∧ 0xC0 ≤ (0xC5 : Byte).toNat ∧
    cfgMapped.enc.dcp.find 0xC5 = some .tc ∧ cfgMapped.enc.dcp.find 0xC1 = none ∧
    (0xDF : Byte) ∈ [(0xC5 : Byte), 0xC8, 0xCC, 0xDD, 0xDE, 0xDF] ∧ 0xE0 ≤ (0xE0 : Byte).toNat := by decide +kernel

theorem witness_DecodeOfEncodeIsTheInstruction :
    (Instr.unknownE0 0xE0 5).wellFormed = true ∧ (Instr.mIcfBSet 1 63 511).wellFormed = true := by decide

theorem witness_StepRunsTheFetchedInstruction :
    let s := { fetching 0 [0xC1, 0x80, 0x08, 0x08] with run := ⟨.a, 0, 1, 0, false⟩ }
    s.phase = .run ∧ s.run.count < s.run.budget ∧ s.run.pc.toNat % 4 = 0 ∧
      decode s.cfg.enc [s.byteAt s.run.pc.toNat, s.byteAt (s.run.pc.toNat + 1), s.byteAt (s.run.pc.toNat + 2),
        s.byteAt (s.run.pc.toNat + 3)] = .ok (.loadTc 0x800808) := ⟨rfl, by decide, rfl, rfl⟩

/-- The first clause with a fault, the others with plane A's and plane B's step, at the position that the X field names. -/
theorem witness_StepRunsTheReachedMatteCommand :
    let c : Payload := 0x408004
    let f := { tracking .a 2 0x100004 with cfg := { cfg8 with matteReserved := .fault } }
    ((tracking .a 2 c).phase = .matte ∧ (tracking .a 2 c).mptr.get .a = some 0 ∧
      (matteX defaultMatteLayout ((tracking .a 2 c).matteAt 0)).toNat ≤ (tracking .a 2 c).line.k ∧
      decode (tracking .a 2 c).cfg.enc (bytesOfEntry ((tracking .a 2 c).matteAt 0)) = .ok (.mIcfA 0 32 2) ∧
      ∃ t, exec (.mIcfA 0 32 2) (tracking .a 2 c) = .next t ∧ t.fault = none ∧ (tracking .a 2 c).line.plane = .a) ∧
    (∃ t, exec (.mIcfA 0 32 2) (tracking .b 2 c) = .next t ∧ t.fault = none ∧ (tracking .b 2 c).line.plane = .b) ∧
    (decode f.cfg.enc (bytesOfEntry (f.matteAt 0)) = .ok (.mRsvd1 0 0 2) ∧
      ∃ t, exec (.mRsvd1 0 0 2) f = .next t ∧ t.fault ≠ none) :=
  ⟨⟨rfl, rfl, by decide +kernel, rfl, _, rfl, rfl, rfl⟩, ⟨_, rfl, rfl, rfl⟩, rfl, _, rfl, by decide +kernel⟩

/-- An entry one position ahead, for plane A and for plane B, and a pointer at END. -/
theorem witness_UnreachedMatteCommandWaits :
    (∀ j : Fin 8, (tracking .a 1 0x900004).mptr.get .a = some j →
      (tracking .a 1 0x900004).line.k < (matteX defaultMatteLayout ((tracking .a 1 0x900004).matteAt j)).toNat) ∧
    (∀ j : Fin 8, (tracking .b 1 0x900004).mptr.get .b = some j →
      (tracking .b 1 0x900004).line.k < (matteX defaultMatteLayout ((tracking .b 1 0x900004).matteAt j)).toNat) ∧
    (tracking .a 1 0x900004).phase = .matte ∧ (tracking .a 1 0x900004).fault = none ∧
    (tracking .a 1 0x900004).line.plane = .a ∧ (tracking .b 1 0x900004).line.plane = .b ∧ start.mptr.get .a = none := by
  decide +kernel

/-- A misaligned fetch with budget left, a used-up budget, an aligned fetch. -/
theorem witness_MisalignedFetchFaults :
    (fetching 3 []).phase = .run ∧ (fetching 3 []).fault = none ∧ (fetching 3 []).run.count < (fetching 3 []).run.budget ∧
    (fetching 3 []).run.pc.toNat % 4 ≠ 0 ∧ (fetching 252 []).run.pc.toNat % 4 = 0 ∧
    { fetching 3 [] with run := ⟨.a, 3, 2, 2, false⟩ }.run.budget ≤ 2 := by decide +kernel

/-- A call with a budget and one without; a run whose budget is used up. -/
theorem witness_RunStartsAndReturnsWithoutBudget :
    (calling (.runProgram .b 6 5)).phase = .idle ∧ (calling (.runProgram .b 6 5)).fault = none ∧
    (calling (.runProgram .b 6 5)).calls = .op (.runProgram .b 6 5) :: [] ∧
    (calling (.runProgram .a 8 0)).phase = .idle ∧ (calling (.runProgram .a 8 0)).fault = none ∧
    (calling (.runProgram .a 8 0)).calls = .op (.runProgram .a 8 0) :: [] ∧
    { fetching 4 [] with run := ⟨.a, 4, 1, 1, false⟩ }.phase = .run ∧
    { fetching 4 [] with run := ⟨.a, 4, 1, 1, false⟩ }.run.budget ≤ 1 := by decide +kernel

/-- The classes 0 and 2. -/
theorem witness_LoadDpWritesDisplayParameters :
    (0x0000FF : Payload).toNat / 256 % 4 ≠ 3 ∧ (0x000200 : Payload).toNat / 256 % 4 ≠ 3 := by decide

/-- A word at address 0, and the word at the last address of the region. -/
theorem witness_LoadDpReservedClassFaults :
    (0x000300 : Payload).toNat / 256 % 4 = 3 ∧ (running .a).fault = none ∧
    (running .a).run.pc.toNat = (0 + 4) % (running .a).cfg.regionSize ∧
    252 < (running .a).cfg.regionSize ∧
    { running .a with run := ⟨.a, 0, 8, 1, false⟩ }.run.pc.toNat = (252 + 4) % (running .a).cfg.regionSize ∧
    (running .a).cfg.enc.dcp = defaultDcpMaps := by
  decide +kernel

/-- Channel A with bank 0, channel B with bank 2, channel B with bank 1. -/
theorem witness_LoadClutWritesTheActiveBank :
    ((running .a).run.ch = .a ∧ ((running .a).reg .clutBank).toNat / 2 ^ cfg4.fields.bank % 4 = 0) ∧
    ((running .b).run.ch = .b ∧ (((running .b).setReg .clutBank 2).reg .clutBank).toNat / 2 ^ cfg4.fields.bank % 4 = 2) ∧
    ((((running .b).setReg .clutBank 1).reg .clutBank).toNat / 2 ^ cfg4.fields.bank % 4 = 1 ∧ 1 < 2) := by decide +kernel

/-- Payload 000101, whose codes are 1 and 1, on each channel, and in `ICM`. -/
theorem witness_LoadIcmWritesAndChecksTheCombination :
    1 = (0x000101 : Payload).toNat / 2 ^ (running .a).cfg.fields.cmA % 16 ∧
    1 = (0x000101 : Payload).toNat / 2 ^ (running .a).cfg.fields.cmB % 16 ∧
    (running .a).cfg.fields = defaultFieldLayout ∧ (running .a).run.ch = .a ∧ (running .b).run.ch = .b ∧
    ((running .a).setReg .icm 0x000101).reg .icm = 0x000101 := by decide +kernel

theorem witness_ChannelARegisterLoads : (running .a).run.ch = .a ∧ (running .b).run.ch = .b := by decide +kernel

/-- Channel B, channel A with and without `P_CH_A_WRITES_B`. -/
theorem witness_ChannelBRegisterLoads :
    ((running .b).run.ch = .b ∨ (running .b).cfg.chAWritesB = true) ∧
    { running .a with cfg := { cfg4 with chAWritesB := true } }.cfg.chAWritesB = true ∧
    (running .a).run.ch = .a ∧ (running .a).cfg.chAWritesB = false := by decide +kernel

theorem witness_LoadCurpatWritesOneRow :
    (running .a).run.ch = .a ∧ (running .b).run.ch = .b ∧ (running .a).cfg.cursor = defaultCursorLayout := by
  decide +kernel

/-- Both settings of `P_SIGNAL_STOPS`. -/
theorem witness_SignalRequestsTheInterrupt :
    (running .a).cfg.signalStops = true ∧
    { running .a with cfg := { cfg4 with signalStops := false } }.cfg.signalStops = false := by decide +kernel

theorem witness_MatteFactorCommands :
    (tracking .a 2 0x408004).mptr.get (tracking .a 2 0x408004).line.plane = some 0 ∧
    (0 : Fin 8).val < ((tracking .a 2 0x408004).mlim.get (tracking .a 2 0x408004).line.plane).val := by decide +kernel

theorem witness_MatteCombinedCommands :
    (tracking .b 1 0xF15002).mptr.get (tracking .b 1 0xF15002).line.plane = some 0 ∧
    (0 : Fin 8).val < ((tracking .b 1 0xF15002).mlim.get (tracking .b 1 0xF15002).line.plane).val := by decide +kernel

/-- A pointer at the last entry under each limit, and one at the first entry. -/
theorem witness_MatteFlagCommands :
    let s := { tracking .a 3 0 with mptr := ⟨some 3, some 7⟩, mlim := ⟨.four, .eight⟩ }
    s.mptr.get .a = some 3 ∧ (3 : Fin 8).val < (s.mlim.get .a).val ∧ s.mptr.get .b = some 7 ∧
      (7 : Fin 8).val < (s.mlim.get .b).val ∧ (tracking .b 0 0).mptr.get .b = some 0 ∧
      (0 : Fin 8).val < ((tracking .b 0 0).mlim.get .b).val := by decide +kernel

theorem witness_ReservedMatteCommands :
    (tracking .a 1 0x100002).mptr.get (tracking .a 1 0x100002).line.plane = some 0 ∧
    (0 : Fin 8).val < ((tracking .a 1 0x100002).mlim.get .a).val ∧ (tracking .a 1 0x100002).cfg.matteReserved = .log ∧
    { tracking .a 1 0x100002 with cfg := { cfg8 with matteReserved := .fault } }.cfg.matteReserved = .fault ∧
    (tracking .a 1 0x100002).fault = none := by decide +kernel

theorem witness_ResetClearsWhatTheSpecNames :
    (calling .reset).phase = .idle ∧ (calling .reset).fault = none ∧ (calling .reset).calls = .op .reset :: [] ∧
    (calling .reset).cfg.fields = defaultFieldLayout := by
  decide +kernel

/-- The three matte modes. -/
theorem witness_AdvanceScanlineStartsTheLine :
    let s := calling (.advanceScanline 0 16)
    let dual := s.setReg .icm 0x080000
    let onB := s.setMatte 0 0x010000
    s.phase = .idle ∧ s.fault = none ∧ s.calls = .op (.advanceScanline 0 16) :: [] ∧ s.y < s.cfg.height ∧
      (∃ dA, s.decodePlane .a 0 16 = .ok dA) ∧ (∃ dB, s.decodePlane .b 0 16 = .ok dB) ∧
      (s.reg .icm).getLsbD s.cfg.fields.nm = false ∧ (s.matteAt 0).getLsbD s.cfg.enc.matte.mf = false ∧
      (dual.reg .icm).getLsbD s.cfg.fields.nm = true ∧
      (∃ dA, dual.decodePlane .a 0 16 = .ok dA) ∧ (onB.reg .icm).getLsbD s.cfg.fields.nm = false ∧
      (onB.matteAt 0).getLsbD s.cfg.enc.matte.mf = true :=
  ⟨rfl, rfl, rfl, by decide, ⟨_, rfl⟩, ⟨_, rfl⟩, rfl, by decide +kernel, rfl, ⟨_, rfl⟩, rfl, by decide +kernel⟩

/-- A state whose planes have the coding methods of `icm` and the image types `a` and `b`. -/
def typed (icm : Payload) (a b : ImageType) : State :=
  { (calling (.advanceScanline 0 0)).setReg .icm icm with dp := ⟨⟨a, 2, .normal8, 0⟩, ⟨b, 2, .normal8, 0⟩⟩ }

/-- One state for each clause, in the order of the clauses. -/
theorem witness_AdvanceScanlineFaults :
    (calling (.advanceScanline 0 0)).phase = .idle ∧ (calling (.advanceScanline 0 0)).fault = none ∧
    (calling (.advanceScanline 0 0)).calls = .op (.advanceScanline 0 0) :: [] ∧
    { calling (.advanceScanline 0 0) with y := 2 }.cfg.height ≤ 2 ∧ (typed 1 .normal .normal).y < 2 ∧
    (∃ f, (typed 1 .mosaic .normal).decodePlane .a 0 0 = .error f) ∧
    ((∃ dA, (typed 0x301 .normal .mosaic).decodePlane .a 0 0 = .ok dA) ∧
      ∃ f, (typed 0x301 .normal .mosaic).decodePlane .b 0 0 = .error f) ∧
    ((typed 0x101 .normal .normal).codingMethod .b = .rgb555 ∧ (typed 0x101 .normal .normal).codingMethod .a ≠ .off) ∧
    ((typed 1 .mosaic .normal).codingMethod .b ≠ .rgb555 ∧ (typed 1 .mosaic .normal).codingMethod .a ≠ .off ∧
      (typed 1 .mosaic .normal).dp.a.itype = .mosaic) ∧
    ((typed 5 .runLength .normal).codingMethod .a = .dyuv ∧ (typed 5 .runLength .normal).dp.a.itype = .runLength) ∧
    ((∃ dA, (typed 0x301 .normal .mosaic).decodePlane .a 0 0 = .ok dA) ∧
      (typed 0x301 .normal .mosaic).codingMethod .a ≠ .off ∧ (typed 0x301 .normal .mosaic).codingMethod .b ≠ .off ∧
      (typed 0x301 .normal .mosaic).dp.b.itype = .mosaic) ∧
    ((∃ dA, (typed 0x503 .normal .runLength).decodePlane .a 0 0 = .ok dA) ∧
      (typed 0x503 .normal .runLength).codingMethod .a ≠ .off ∧ (typed 0x503 .normal .runLength).codingMethod .b = .dyuv ∧
      (typed 0x503 .normal .runLength).dp.b.itype = .runLength) ∧
    ((∃ dA, (typed 0x100 .normal .runLength).decodePlane .a 0 0 = .ok dA) ∧
      (typed 0x100 .normal .runLength).codingMethod .b = .rgb555 ∧
      (typed 0x100 .normal .runLength).dp.b.itype = .runLength) :=
  ⟨rfl, rfl, rfl, by decide, by decide, ⟨_, rfl⟩, ⟨⟨_, rfl⟩, ⟨_, rfl⟩⟩, ⟨rfl, by decide +kernel⟩,
    ⟨by decide +kernel, by decide +kernel, rfl⟩, ⟨rfl, rfl⟩,
    ⟨⟨_, rfl⟩, by decide +kernel, by decide +kernel, rfl⟩, ⟨⟨_, rfl⟩, by decide +kernel, rfl, rfl⟩, ⟨⟨_, rfl⟩, rfl, rfl⟩⟩

/-- With the default layout; plane A is decoded with ICM 000001, and neither plane is with ICM 0. -/
theorem witness_PositionWritesItsTwoColumns :
    lastPosition.Inv ∧ lastPosition.phase = .pixels ∧ lastPosition.cfg.fields = defaultFieldLayout ∧
      lastPosition.codingMethod .a = .off ∧ (lastPosition.setReg .icm 1).codingMethod .a = .clut8 ∧
      (lastPosition.setReg .icm 1).codingMethod .b ≠ .rgb555 :=
  ⟨witness_inv_lastPosition, rfl, rfl, by decide +kernel⟩

/-- The last position of a line and the one before it. -/
theorem witness_PositionsFollowToTheEndOfTheLine :
    lastPosition.phase = .pixels ∧ lastPosition.cfg.width / 2 ≤ lastPosition.line.k + 1 ∧
    { lastPosition with line := { lastPosition.line with k := 0 } }.line.k + 1 < lastPosition.cfg.width / 2 := by
  decide +kernel

theorem witness_FinalizeFrameHandsOutTheScreen :
    let both := completeFrame.setReg .curctl 0x800080
    completeFrame.phase = .idle ∧ completeFrame.fault = none ∧ completeFrame.calls = .op .finalizeFrame :: [] ∧
    { completeFrame with y := 1 }.y ≠ completeFrame.cfg.height ∧ completeFrame.y = completeFrame.cfg.height ∧
    true = (completeFrame.reg .curctl).getLsbD completeFrame.cfg.cursor.cen ∧
    false = (completeFrame.reg .curctl).getLsbD completeFrame.cfg.cursor.cres ∧
    true = (both.reg .curctl).getLsbD both.cfg.cursor.cen ∧ true = (both.reg .curctl).getLsbD both.cfg.cursor.cres ∧
    completeFrame.cfg.cursor = defaultCursorLayout := by decide +kernel

/-- COFF 0; CON 2 with COFF 1 at the counts 0 and 1. -/
theorem witness_BlinkTimerTogglesAfterItsPeriod :
    let s := start.setReg .curctl 0x002100
    0 = (start.reg .curctl).toNat / 2 ^ start.cfg.cursor.coff.lo % 2 ^ start.cfg.cursor.coff.width ∧
      2 = (s.reg .curctl).toNat / 2 ^ s.cfg.cursor.con.lo % 2 ^ s.cfg.cursor.con.width ∧
      1 = (s.reg .curctl).toNat / 2 ^ s.cfg.cursor.coff.lo % 2 ^ s.cfg.cursor.coff.width ∧
      s.ccount + 1 < (if s.cvis then 2 else 1) * s.cfg.blinkUnit ∧
      (if s.cvis then 2 else 1) * s.cfg.blinkUnit ≤ { s with ccount := 1 }.ccount + 1 ∧
      s.cfg.cursor = defaultCursorLayout := by
  decide +kernel

/-- The screen columns 0 and 1 of line 0 are covered, column 2 is not. -/
theorem witness_CursorPaintsItsSetPixels :
    let s := completeFrame
    s.Inv ∧
      0 = (s.reg .curpos).toNat / 2 ^ s.cfg.cursor.cx.lo % 2 ^ s.cfg.cursor.cx.width ∧
      0 = (s.reg .curpos).toNat / 2 ^ s.cfg.cursor.cy.lo % 2 ^ s.cfg.cursor.cy.width ∧
      true = (s.reg .curctl).getLsbD s.cfg.cursor.cen ∧ 0xF = (s.reg .curctl).extractLsb' s.cfg.cursor.ccol 4 ∧
      s.cfg.bdFull = (if (0xF : BitVec 4).getLsbD 3 then s.cfg.bdFull else s.cfg.bdHalf) ∧ s.cvis = true ∧
      0 < s.cfg.height ∧ 2 < s.cfg.width ∧ (s.curpatAt 0).getLsbD (15 - 0) = true ∧ 0 = 0 + (0 : Fin 16).val ∧
      s.cfg.displayRes = .normal ∧ 1 = 2 * (0 / 2 + 0) + 1 ∧ (s.curpatAt 0).getLsbD (15 - 1) = false ∧
      s.cfg.fields = defaultFieldLayout ∧ s.cfg.cursor = defaultCursorLayout :=
  ⟨witness_inv_completeFrame, by decide +kernel⟩

theorem witness_HostRegisterAccess :
    (calling (.readReg (.ctl .tc))).phase = .idle ∧ (calling (.readReg (.ctl .tc))).fault = none ∧
    (calling (.readReg (.ctl .tc))).calls = .op (.readReg (.ctl .tc)) :: [] ∧
    (calling (.readReg (.dp .b))).calls = .op (.readReg (.dp .b)) :: [] ∧
    (calling (.writeReg (.ctl .tc) 0xFF800808)).calls = .op (.writeReg (.ctl .tc) 0xFF800808) :: [] ∧
    (calling (.writeReg (.dp .a) 0x0000020F)).calls = .op (.writeReg (.dp .a) 0x0000020F) :: [] ∧
    (0x0000020F : Word).toNat / 256 % 4 ≠ 3 ∧ (0x00000300 : Word).toNat / 256 % 4 = 3 := by decide +kernel

/-- The last index of each table and the first one past it. -/
theorem witness_HostTableAccess :
    (calling (.readClut 255)).phase = .idle ∧ (calling (.readClut 255)).fault = none ∧
    (calling (.readClut 255)).calls = .op (.readClut 255) :: [] ∧ 255 < 256 ∧ 256 ≤ 256 ∧
    (calling (.writeClut 255 1)).calls = .op (.writeClut 255 1) :: [] ∧
    (calling (.readMatte 7)).calls = .op (.readMatte 7) :: [] ∧ 7 < 8 ∧ 8 ≤ 8 ∧
    (calling (.writeMatte 7 1)).calls = .op (.writeMatte 7 1) :: [] ∧
    (calling (.readCurpat 15)).calls = .op (.readCurpat 15) :: [] ∧ 15 < 16 ∧ 16 ≤ 16 ∧
    (calling (.writeCurpat 15 1)).calls = .op (.writeCurpat 15 1) :: [] := by decide +kernel

theorem witness_EveryStepKeepsTheInvariant : lastPosition.Inv ∧ ∃ t, step lastPosition = .next t :=
  ⟨witness_inv_lastPosition, _, rfl⟩

theorem witness_FaultRecordIsNeverCleared :
    { calling .reset with fault := some (.frameOverrun 2) }.fault = some (.frameOverrun 2) ∧
      ∃ t, step { calling .reset with fault := some (.frameOverrun 2) } = .next t := ⟨rfl, _, rfl⟩

theorem witness_FaultedBlockIsQuiescent :
    { calling .reset with fault := some (.frameOverrun 2) }.phase = .idle ∧
    { calling .reset with fault := some (.frameOverrun 2) }.fault = some (.frameOverrun 2) ∧
    { calling .reset with fault := some (.frameOverrun 2) }.calls = .op .reset :: [] := by decide +kernel

/-- A step of a run, and an idle step that serves an operation. -/
theorem witness_RegionIsReadOnlyToTheBlock :
    (∃ t, step (fetching 0 [0x10]) = .next t) ∧ (fetching 0 [0x10]).phase ≠ .idle ∧
    (∃ t, step (calling .reset) = .next t) ∧ (∀ a v rest, (calling .reset).calls ≠ .writeRegion a v :: rest) :=
  ⟨⟨_, rfl⟩, by decide +kernel, ⟨_, rfl⟩, fun _ _ _ h => by cases h⟩

/-- A write past the region's size, a change of a disable input, and no call. -/
theorem witness_HostInputsLandBetweenOperations :
    { fetching 0 [1, 2] with phase := .idle, calls := [.writeRegion 257 7] }.phase = .idle ∧
    Memory.wf (fetching 0 [1, 2]).cfg.regionSize (fetching 0 [1, 2]).region = true ∧
    { fetching 0 [1, 2] with phase := .idle, calls := [.writeRegion 257 7] }.calls = .writeRegion 257 7 :: [] ∧
    start.phase = .idle ∧ start.calls = [] ∧
    { start with calls := [.setIntDisable .b true] }.calls = .setIntDisable .b true :: [] := by
  decide +kernel

theorem witness_ChannelsKeepToTheirRegisters :
    (Instr.loadTcolA 5).isMatte = false ∧ (∃ t, exec (.loadTcolA 5) (running .b) = .next t) ∧ (running .b).run.ch = .b ∧
    (∃ t, exec (.loadTcolB 5) (running .a) = .next t) ∧ (running .a).run.ch = .a ∧
    (running .a).cfg.chAWritesB = false := ⟨rfl, ⟨_, rfl⟩, rfl, ⟨_, rfl⟩, rfl, rfl⟩

theorem witness_RunReturnsWithinItsBudget : (fetching 0 [0x10]).phase = .run := rfl

/-- The first position of a line, with both policies for reserved opcodes. -/
theorem witness_ScanlineCompletes :
    (tracking .a 0 0).phase = .matte ∧ (tracking .a 0 0).line.plane = .a ∧ (tracking .a 0 0).fault = none ∧
    (tracking .a 0 0).line.k < (tracking .a 0 0).cfg.width / 2 ∧ (tracking .a 0 0).cfg.matteReserved = .log ∧
    { tracking .a 3 0 with cfg := { cfg8 with matteReserved := .fault } }.line.k < cfg8.width / 2 := by decide +kernel

theorem witness_FinalizedFrameIsOpaque :
    completeFrame.Inv ∧ completeFrame.phase = .idle ∧ completeFrame.calls = .op .finalizeFrame :: [] ∧
      ∃ t frame, step completeFrame = .next t ∧
        t.outputs = completeFrame.outputs ++ [.frameCompleted frame, .finalized frame] :=
  ⟨witness_inv_completeFrame, rfl, rfl, _, _, rfl, rfl⟩

/-- A plane for each clause: OFF with Mosaic in its parameters; plane A, not OFF, beside RGB555; Mosaic; RunLength of DYUV;
RunLength of a CLUT method with an overrun and without; and a normal line of each kind. -/
theorem witness_DecodedLineFillsTheBufferAndCountsItsBytes :
    let overlong := { greyClut [0x80, 0x03] with
      regs := { Regs.zero with icm := 1 }, dp := ⟨⟨.runLength, 2, .normal8, 0x002⟩, DisplayParams.zero⟩
      cfg := { cfg4 with rlOverrun := .fault } }
    ((typed 0 .mosaic .normal).codingMethod .a = .off ∧ (typed 0 .mosaic .normal).dp.a.itype = .mosaic) ∧
    ((typed 0x101 .normal .normal).codingMethod .b = .rgb555 ∧ (typed 0x101 .normal .normal).codingMethod .a ≠ .off) ∧
    ((typed 1 .mosaic .normal).codingMethod .b ≠ .rgb555 ∧ (typed 1 .mosaic .normal).codingMethod .a ≠ .off ∧
      (typed 1 .mosaic .normal).dp.a.itype = .mosaic) ∧
    ((typed 5 .runLength .normal).codingMethod .a = .dyuv ∧ (typed 5 .runLength .normal).codingMethod .b ≠ .rgb555 ∧
      (typed 5 .runLength .normal).dp.a.itype = .runLength) ∧
    (overlong.codingMethod .a = .clut8 ∧ overlong.codingMethod .b ≠ .rgb555 ∧ overlong.dp.a.itype = .runLength ∧
      overlong.dp.a.bpp ≠ .double4 ∧ overlong.rl7 .a .clut8 0 = .error (.runOverrun .a 0 0 3)) ∧
    ((typed 1 .runLength .normal).codingMethod .a = .clut8 ∧ (typed 1 .runLength .normal).dp.a.itype = .runLength ∧
      (∃ q, (typed 1 .runLength .normal).rl7 .a .clut8 0 = .ok q) ∧
      ∃ r, (typed 1 .runLength .normal).decodePlane .a 0 0 = .ok r) ∧
    ((typed 1 .normal .normal).codingMethod .a = .clut8 ∧ ∃ r, (typed 1 .normal .normal).decodePlane .a 0 0 = .ok r) ∧
    ((typed 0xB .normal .normal).codingMethod .a = .clut4 ∧ ∃ r, (typed 0xB .normal .normal).decodePlane .a 0 0 = .ok r) ∧
    ((typed 0x100 .normal .normal).codingMethod .b = .rgb555 ∧
      ∃ r, (typed 0x100 .normal .normal).decodePlane .b 0 0 = .ok r) :=
  ⟨by decide +kernel, by decide +kernel, by decide +kernel, by decide +kernel,
    ⟨rfl, by decide +kernel, rfl, by decide +kernel, rfl⟩, ⟨rfl, rfl, ⟨_, rfl⟩, _, rfl⟩, ⟨rfl, _, rfl⟩, ⟨rfl, _, rfl⟩,
    rfl, _, rfl⟩

/-- One decoded line for each clause, and the last column. -/
theorem witness_IndexedLineShowsItsEntries :
    ((typed 1 .normal .normal).codingMethod .a = .clut8 ∧ (typed 3 .normal .normal).codingMethod .a = .clut7 ∧
      (typed 4 .normal .normal).codingMethod .a = .clut77 ∧ (typed 0x300 .normal .normal).codingMethod .b = .clut7 ∧
      (typed 0xB00 .normal .normal).codingMethod .b = .clut4 ∧ (typed 1 .normal .normal).dp.a.itype = .normal ∧
      (typed 1 .normal .normal).dp.a.bpp = .normal8 ∧ 3 < (typed 1 .normal .normal).cfg.width) ∧
    (∃ r, (typed 1 .normal .normal).decodePlane .a 0 0 = .ok r) ∧
    (∃ r, (typed 3 .normal .normal).decodePlane .a 0 0 = .ok r) ∧
    (∃ r, (typed 4 .normal .normal).decodePlane .a 0 0 = .ok r) ∧
    (∃ r, (typed 0x300 .normal .normal).decodePlane .b 0 0 = .ok r) ∧
    (∃ r, (typed 0xB00 .normal .normal).decodePlane .b 0 0 = .ok r) :=
  ⟨by decide +kernel, ⟨_, rfl⟩, ⟨_, rfl⟩, ⟨_, rfl⟩, ⟨_, rfl⟩, ⟨_, rfl⟩⟩

/-- A line of each plane; the seed of DYUV_A 108080. -/
theorem witness_DyuvCarryAccumulatesDeltas :
    let s := (typed 5 .normal .normal).setReg (.dyuv .a) 0x108080
    s.codingMethod .a = .dyuv ∧ (s.dp.get .a).itype = .normal ∧ (∃ r, s.decodePlane .a 0 0 = .ok r) ∧ 3 < s.cfg.width ∧
      (⟨16, 128, 128⟩ : Carry) = {
        y := (s.reg (.dyuv .a)).extractLsb' s.cfg.fields.seedY 8
        u := (s.reg (.dyuv .a)).extractLsb' s.cfg.fields.seedU 8
        v := (s.reg (.dyuv .a)).extractLsb' s.cfg.fields.seedV 8 } ∧
      (typed 0x500 .normal .normal).codingMethod .b = .dyuv ∧
      ∃ r, (typed 0x500 .normal .normal).decodePlane .b 0 0 = .ok r :=
  ⟨rfl, rfl, ⟨_, rfl⟩, by decide, rfl, rfl, _, rfl⟩

/-- 95 section 3.2, row 1: the sums of the statement for seed 108080 and word 1234. -/
theorem witness_DyuvWordPixels :
    129 = (128 + (defaultDequant[(0x1234 / 4096)]!).toNat) % 256 ∧
    20 = (16 + (defaultDequant[(0x1234 / 256 % 16)]!).toNat) % 256 ∧
    137 = (128 + (defaultDequant[(0x1234 / 16 % 16)]!).toNat) % 256 ∧
    36 = (20 + (defaultDequant[(0x1234 % 16)]!).toNat) % 256 := by decide +kernel

theorem witness_Rgb555LinePixels :
    (typed 0x100 .normal .normal).codingMethod .b = .rgb555 ∧
    (∃ r, (typed 0x100 .normal .normal).decodePlane .b 0 8 = .ok r) ∧
    (typed 0x100 .normal .normal).cfg.rgb5 = defaultRgb5 ∧
    (typed 0x100 .normal .normal).cfg.fields = defaultFieldLayout ∧ 3 < (typed 0x100 .normal .normal).cfg.width :=
  ⟨rfl, ⟨_, rfl⟩, rfl, rfl, by decide⟩

theorem witness_RunLengthFillsTheLineExactly :
    (∃ r, (greyClut [0x83, 0x01, 0x84, 0x00]).rl7 .a .clut8 0 = .ok r) ∧
    (∃ r, (greyClut [0xA5, 0x05]).rl3 .a .clut8 0 = .ok r) ∧ (greyClut []).cfg.rlOverrun = .clamp :=
  ⟨⟨_, rfl⟩, ⟨_, rfl⟩, rfl⟩

/-- One item for each clause, at pixel 0 of a line of 2: no count bit; a count of 2, all that is left; a count of 0; a count
of 3, one too many, with both policies. Then a line of RL7 and one of RL3. -/
theorem witness_RunLengthItemsGiveTheirPixels :
    (start.decodeWidth .a = 2 ∧ 1 ∣ 0 ∧ (2 - 0) / 1 = 2 ∧ (2 - 0) / 2 = 1) ∧
    ((greyClut [0x7F]).byteAt 0 = 0x7F ∧ (0x7F : Byte).toNat < 128) ∧
    ((greyClut [0x80, 0x02]).byteAt 0 = 0x80 ∧ (greyClut [0x80, 0x02]).byteAt 1 = 2 ∧ 128 ≤ (0x80 : Byte).toNat) ∧
    (greyClut [0x80, 0x00]).byteAt 1 = 0 ∧
    ((typed 1 .runLength .normal).codingMethod .a = .clut8 ∧
      CodingMethod.clut8 ∈ [CodingMethod.clut8, .clut7, .clut77, .clut4]) ∧
    ((greyClut [0x80, 0x03]).byteAt 1 = 3 ∧ (greyClut [0x80, 0x03]).cfg.rlOverrun = .clamp ∧
      { greyClut [0x80, 0x03] with cfg := { cfg4 with rlOverrun := .fault } }.cfg.rlOverrun = .fault) ∧
    ((typed 1 .runLength .normal).codingMethod .a ≠ .off ∧ (typed 1 .runLength .normal).dp.a.itype = .runLength ∧
      (typed 1 .runLength .normal).dp.a.bpp = .normal8 ∧
      ∃ r, (typed 1 .runLength .normal).decodePlane .a 0 0 = .ok r) ∧
    (∃ r, ({ typed 1 .normal .normal with
      dp := ⟨⟨.runLength, 2, .double4, 0x102⟩, DisplayParams.zero⟩ } : State).decodePlane .a 0 0 = .ok r) :=
  ⟨by decide +kernel, by decide +kernel, by decide +kernel, by decide +kernel, by decide +kernel, by decide +kernel,
    ⟨by decide +kernel, rfl, rfl, _, rfl⟩, _, rfl⟩

/-- Mode 5 with polarity 1 in the default layout; the colour key holds and fails. -/
theorem witness_ResolvedAlphaTable :
    5 = (0xD : BitVec 4).toNat / 2 ^ defaultFieldLayout.mode % 8 ∧
    true = (0xD : BitVec 4).getLsbD defaultFieldLayout.polarity ∧
    (0x102030 : Payload) = (0x102030 : Payload).extractLsb' defaultFieldLayout.red 8 ++
      (0x102030 : Payload).extractLsb' defaultFieldLayout.green 8 ++
      (0x102030 : Payload).extractLsb' defaultFieldLayout.blue 8 ∧
    true = decide (((0x50 : Byte) ++ (0x60 : Byte) ++ (0x70 : Byte) : Payload) &&& 0x3F3F3F = 0x102030 &&& 0x3F3F3F) ∧
    false = decide (((0x10 : Byte) ++ (0x20 : Byte) ++ (0x31 : Byte) : Payload) &&& 0x3F3F3F = 0x102030 &&& 0x3F3F3F) := by
  decide +kernel

theorem witness_BackdropFollowsItsCode :
    (0 : BitVec 4) = (start.reg .backdrop).extractLsb' start.cfg.fields.backdrop 4 ∧
    (128 : Byte) = (if (0 : BitVec 4).getLsbD 3 then start.cfg.bdFull else start.cfg.bdHalf) ∧
    start.cfg.fields = defaultFieldLayout := by decide +kernel

theorem witness_MixSumsTheScaledPlanes : Px.clear.a = 0 ∧ grey.a ≠ 0 := by decide

end Sys2Proof.Tests
end

/-! SUPPORT. The parameters (00_scope R7): no step changes one, and the reset state has the defaults. -/

namespace Sys2Proof.Machine

/-! ## What the start of a line and the end of a frame can do -/

/-- The start of a scanline faults on its line check or on a decode, or begins the line (46 R292). -/
theorem startLine_cases (s : State) (ptrA ptrB : Nat) :
    (∃ f, s.startLine ptrA ptrB = s.raise f) ∨
    (s.y < s.cfg.height ∧ ∃ dA dB, s.decodePlane .a ptrA ptrB = .ok dA ∧ s.decodePlane .b ptrA ptrB = .ok dB ∧
      s.startLine ptrA ptrB = s.beginLine dA dB) := by
  unfold State.startLine
  split
  · exact .inl ⟨_, rfl⟩
  · next hy =>
    cases hA : s.decodePlane .a ptrA ptrB with
    | error f => exact .inl ⟨f, rfl⟩
    | ok dA =>
      cases hB : s.decodePlane .b ptrA ptrB with
      | error f => exact .inl ⟨f, rfl⟩
      | ok dB => exact .inr ⟨by omega, dA, dB, rfl, rfl, rfl⟩

/-- Finalising a frame faults, or draws the cursor, ticks the timer and hands the frame out (46 R294). -/
theorem finalize_cases (s : State) :
    (∃ f, s.finalize = s.raise f) ∨
    (s.y = s.cfg.height ∧ (s.cursorEnable && s.cursorDouble) = false ∧
      s.finalize = { s.drawCursor.blinkTick with
        y := 0
        outputs := s.drawCursor.blinkTick.outputs ++
          [.frameCompleted s.drawCursor.blinkTick.frame, .finalized s.drawCursor.blinkTick.frame] }) := by
  unfold State.finalize
  split
  · exact .inl ⟨_, rfl⟩
  · next hy =>
    split
    · exact .inl ⟨_, rfl⟩
    · next hc => exact .inr ⟨by omega, by simpa using hc, rfl⟩

/-! ## The parameters under each part of a step -/

theorem DcpEffect.cfg_eq {s t : State} (h : DcpEffect s t) : t.cfg = s.cfg := by rw [h.fields]

theorem MatteEffect.cfg_eq {s t : State} (h : MatteEffect s t) : t.cfg = s.cfg := by rw [h.fields]

section Parameters

variable (s : State)

@[simp] theorem afterMatte_cfg : s.afterMatte.cfg = s.cfg := by
  unfold State.afterMatte
  split
  · rfl
  · split <;> rfl

@[simp] theorem producePixel_cfg (x : Nat) : (s.producePixel x).cfg = s.cfg := rfl

@[simp] theorem pixelStep_cfg : s.pixelStep.cfg = s.cfg := by
  obtain ⟨t, ht, hfields, _⟩ := pixelStep_cases s
  rw [ht, hfields]

@[simp] theorem matteReset_cfg : s.matteReset.cfg = s.cfg := by
  unfold State.matteReset
  dsimp only
  split
  · rfl
  · split <;> rfl

@[simp] theorem beginLine_cfg (dA dB : Decoded) : (s.beginLine dA dB).cfg = s.cfg := matteReset_cfg s

@[simp] theorem startLine_cfg (ptrA ptrB : Nat) : (s.startLine ptrA ptrB).cfg = s.cfg := by
  rcases startLine_cases s ptrA ptrB with ⟨f, h⟩ | ⟨_, dA, dB, _, _, h⟩ <;> simp [h]

@[simp] theorem drawCursor_cfg : s.drawCursor.cfg = s.cfg := by rw [drawCursor_eq]

@[simp] theorem blinkTick_cfg : s.blinkTick.cfg = s.cfg := by rw [blinkTick_eq]

@[simp] theorem finalize_cfg : s.finalize.cfg = s.cfg := by
  rcases finalize_cases s with ⟨f, h⟩ | ⟨_, _, h⟩ <;> simp [h]

@[simp] theorem doReset_cfg : s.doReset.cfg = s.cfg := rfl

@[simp] theorem hostWrite_cfg (x : HostReg) (v : Word) : (s.hostWrite x v).cfg = s.cfg := by
  cases x with
  | ctl x => rfl
  | dp p =>
    rcases loadDisplayParams_cases s p (v.setWidth 24) (.hostWrite p v) (fun t => t.emit .done) with
      ⟨_, _, _, h⟩ | ⟨_, h⟩ <;> simp [State.hostWrite, h]

/-- A table access keeps the parameters when the access behind its index check does. -/
theorem withIndex_cfg (t : Table) (size i : Nat) (go : i < size → State) (hgo : ∀ h, (go h).cfg = s.cfg) :
    (s.withIndex t size i go).cfg = s.cfg := by
  by_cases h : i < size
  · rw [withIndex_pos go h, hgo h]
  · rw [withIndex_neg go (by omega), raise_cfg]

@[simp] theorem serveOp_cfg (o : HostOp) : (s.serveOp o).cfg = s.cfg := by
  cases o with
  | reset | runProgram | readReg => rfl
  | advanceScanline ptrA ptrB => exact startLine_cfg s ptrA ptrB
  | finalizeFrame => exact finalize_cfg s
  | writeReg x v => exact hostWrite_cfg s x v
  | readClut | writeClut | readMatte | writeMatte | readCurpat | writeCurpat =>
    exact withIndex_cfg s _ _ _ _ fun _ => rfl

@[simp] theorem serve_cfg (c : HostCall) : (s.serve c).cfg = s.cfg := by
  cases c with
  | op o => cases h : s.fault <;> simp [State.serve, h]
  | writeRegion | setIntDisable => rfl

@[simp] theorem idleStep_cfg : s.idleStep.cfg = s.cfg := by
  unfold State.idleStep
  split
  · rfl
  · exact serve_cfg _ _

/-- A turn of the run loop answers a next state with the same parameters. -/
theorem runStep_next_cfg : ∃ t, s.runStep = .next t ∧ t.cfg = s.cfg := by
  rcases runStep_cases s with ⟨_, h⟩ | ⟨_, _, h⟩ | ⟨_, _, t, h, heffect⟩
  · exact ⟨_, h, endRun_cfg s _ _⟩
  · exact ⟨_, h, raise_cfg s _⟩
  · exact ⟨t, h, heffect.cfg_eq.trans (afterFetch_cfg s)⟩

/-- A tracker step answers a next state with the same parameters. -/
theorem matteStep_next_cfg : ∃ t, s.matteStep = .next t ∧ t.cfg = s.cfg := by
  obtain ⟨t, heffect, h⟩ := matteStep_cases s
  exact ⟨_, h, (afterMatte_cfg t).trans heffect.cfg_eq⟩

end Parameters

/-! ## The reset state -/

/-- Clearing a field of a register that is 0 leaves it 0, wherever the field stands. -/
@[simp] theorem clearField_zero (lo n : Nat) : clearField lo n 0 = 0 := by simp [clearField]

/-- `Reset()` of the POWER_ON state (70 R340, R347): the cleared fields are 0 already, at every layout's places, so
only the cursor's phase changes. -/
theorem doReset_powerOn : State.powerOn.doReset = State.reset := by
  have hicm : State.powerOn.regs.icm = 0 := rfl
  have hcurctl : State.powerOn.regs.curctl = 0 := rfl
  simp only [State.doReset, hicm, hcurctl, clearField_zero]
  rfl

/-- Both planes are OFF after reset (70 R341). -/
theorem codingMethod_reset (p : Plane) : State.reset.codingMethod p = .off := by cases p <;> rfl

/-- The cursor is disabled after reset, wherever `CURSOR_LAYOUT` puts the enable (70 R342). -/
theorem curctl_reset_getLsbD (i : Nat) : (State.reset.reg .curctl).getLsbD i = false :=
  BitVec.getLsbD_zero

/-- The table of `RGB5_EXPAND` is the shift by 3 (00_scope R7, 41 R175). -/
theorem defaultRgb5_eq_shift : ∀ c : BitVec 5, defaultRgb5[c.toNat]'c.isLt = c.setWidth 8 <<< 3 := by decide

end Sys2Proof.Machine

namespace Sys2Proof.Proofs.Scope

open Sys2Proof.Machine

/-- Settles O41: one case for each phase of the block. -/
theorem everyStepAnswersNextWithTheSameParameters : Obligations.EveryStepAnswersNextWithTheSameParameters := by
  intro s
  cases hphase : s.phase with
  | idle => exact ⟨_, step_idle hphase, idleStep_cfg s⟩
  | run => rw [step_run hphase]; exact runStep_next_cfg s
  | matte => rw [step_matte hphase]; exact matteStep_next_cfg s
  | pixels => exact ⟨_, step_pixels hphase, pixelStep_cfg s⟩

/-- Settles O29: what `Reset()` makes of the POWER_ON state, then the values the state and its configuration spell out. -/
theorem resetStateIsResetOfPowerOn : Obligations.ResetStateIsResetOfPowerOn :=
  ⟨doReset_powerOn, rfl, rfl, rfl, rfl, rfl, codingMethod_reset, curctl_reset_getLsbD _, rfl, rfl, rfl, rfl,
    defaultRgb5_eq_shift, rfl, rfl, rfl, rfl, rfl, rfl, rfl, rfl⟩

end Sys2Proof.Proofs.Scope

/-! SUPPORT. The registers' contents (10_state R23, R36, R38, R41): what the codes of `ICM` mean, what LOAD_ICM writes and
logs, and why a block that stands idle at the start of a frame has produced nothing. -/

namespace Sys2Proof

/-- With the default maps the word of a register load selects that load (30_encoding R83). -/
theorem decodeDcp_default_code (l : RegLoad) (d : Payload) :
    decodeDcp defaultDcpMaps (dcpWord (defaultDcpMaps.code l) d) = l.instr d := by
  have hrange : ∀ l ∈ RegLoad.all, 0xC0 ≤ (defaultDcpMaps.code l).toNat ∧
      ¬(0xD0 ≤ (defaultDcpMaps.code l).toNat ∧ (defaultDcpMaps.code l).toNat ≤ 0xD7) := by decide
  have hl : l ∈ RegLoad.all := by cases l <;> decide
  obtain ⟨hlow, hmatte⟩ := hrange l hl
  rw [decodeDcp_regLoad _ _ _ hlow hmatte, decodeRegLoad, find_default_code l hl]

namespace Machine

/-! ## The coding methods of `ICM` (10_state R23, 30_encoding R86) -/

/-- The value of a 4-bit field at any place. -/
theorem nibble_toNat (d : Payload) (lo : Nat) : (d.extractLsb' lo 4).toNat = d.toNat / 2 ^ lo % 16 := by
  simp [BitVec.extractLsb'_toNat, Nat.shiftRight_eq_div_pow]

/-- `table0` as R23 lists it: a code without a row is OFF. -/
theorem table0_eq : ∀ c : BitVec 4, table0 c =
    if c.toNat = 1 then .clut8 else if c.toNat = 3 then .clut7 else if c.toNat = 4 then .clut77
    else if c.toNat = 5 then .dyuv else if c.toNat = 0xB then .clut4 else .off := by decide

/-- `table1` as R23 lists it: a code without a row is OFF. -/
theorem table1_eq : ∀ c : BitVec 4, table1 c =
    if c.toNat = 1 then .rgb555 else if c.toNat = 3 then .clut7 else if c.toNat = 5 then .dyuv
    else if c.toNat = 0xB then .clut4 else .off := by decide

/-- The coding methods of a state are those of the value that `ICM` holds. -/
theorem codingMethod_of_icm {s : State} {d : Payload} (h : s.reg .icm = d) (p : Plane) :
    s.codingMethod p = icmMethod s.cfg.fields d p := congrArg (icmMethod s.cfg.fields · p) h

/-- `CheckCombination` as the two checks of R143, in their order. -/
theorem combinationDeviations_eq (l : FieldLayout) (d : Payload) {mA mB : CodingMethod}
    (hA : icmMethod l d .a = mA) (hB : icmMethod l d .b = mB) :
    combinationDeviations l d =
      (if mB = .rgb555 ∧ mA ≠ .off then [Deviation.disallowedCombination mA mB] else []) ++
        (if mA ∈ [CodingMethod.clut8, .clut77] ∧ mB ∉ [CodingMethod.dyuv, .off] then
          [Deviation.disallowedCombination mA mB] else []) := by
  simp [combinationDeviations, hA, hB]

/-! ## LOAD_ICM (40 R122) -/

/-- LOAD_ICM on channel A stores the payload and then logs what the check of R143 finds. -/
theorem exec_loadIcm_permitted {s : State} (d : Payload) (h : s.run.ch = .a) :
    exec (.loadIcm d) s = .next ((s.setReg .icm d).logAll (combinationDeviations s.cfg.fields d)) := by
  have hpermitted : permitted s.cfg .aOnly s.run.ch = true := by rw [h]; rfl
  exact congrArg Host.Outcome.next (guardedLoad_permitted .icm _ hpermitted)

/-- LOAD_ICM on channel B only logs that the channel may not load `ICM` (40 R142). -/
theorem exec_loadIcm_refused {s : State} (d : Payload) (h : s.run.ch = .b) :
    exec (.loadIcm d) s = .next (s.logDev (.channelNotPermitted .b (s.cfg.enc.dcp.code .icm))) := by
  have hrefused : permitted s.cfg .aOnly s.run.ch = false := by rw [h]; rfl
  rw [← h]
  exact congrArg Host.Outcome.next (guardedLoad_refused .icm _ hrefused)

/-! ## The start of a frame (10_state R36, R41) -/

/-- The display parameters of payload 0 are the decoding of their `raw` value. -/
theorem DisplayParams.zero_legal : DisplayParams.zero.Legal := by
  unfold DisplayParams.Legal
  decide

/-- An idle block has no scanline in progress. -/
theorem not_inLine_of_idle {s : State} (h : s.phase = .idle) : ¬s.InLine := by simp [State.InLine, h]

/-- At line 0 and outside a scanline no pixel of the frame has been produced. -/
theorem not_produced_at_frame_start {s : State} (hy : s.y = 0) (hline : ¬s.InLine) (l x : Nat) : ¬s.Produced l x := by
  rintro (hl | ⟨_, hin, _⟩)
  · omega
  · exact hline hin

end Machine

end Sys2Proof

namespace Sys2Proof.Proofs.BlockState

open Sys2Proof.Machine

/-- Settles O16: the tables of R23 give the methods, and the rights of `ICM` split on the channel. -/
theorem loadIcmWritesAndChecksTheCombination : Obligations.LoadIcmWritesAndChecksTheCombination := by
  intro s d a b mA mB ha hb hmA hmB
  have hA : icmMethod s.cfg.fields d .a = mA := by
    rw [hmA, ha, ← nibble_toNat]
    exact table0_eq _
  have hB : icmMethod s.cfg.fields d .b = mB := by
    rw [hmB, hb, ← nibble_toNat]
    exact table1_eq _
  have hmethods (t : State) (hcfg : t.cfg = s.cfg) (h : t.reg .icm = d) :
      t.codingMethod .a = mA ∧ t.codingMethod .b = mB := by
    rw [codingMethod_of_icm h, codingMethod_of_icm h, hcfg]
    exact ⟨hA, hB⟩
  refine ⟨hmethods s rfl, fun hfields => ?_, decodeDcp_default_code .icm d, fun hch => ?_, rfl,
    exec_loadIcm_refused d⟩
  · rw [ha, hb, hfields]
    exact ⟨by simp [defaultFieldLayout], rfl⟩
  · obtain ⟨htA, htB⟩ := hmethods ((s.setReg .icm d).logAll (combinationDeviations s.cfg.fields d)) rfl rfl
    exact ⟨_, exec_loadIcm_permitted d hch, rfl, fun z hz => reg_setReg_other s d hz, htA, htB,
      congrArg (s.log ++ ·) (combinationDeviations_eq _ _ hA hB), rfl, fun _ => rfl⟩

/-- Settles O30: the parameters are decodings, no pointer or line stands in the state, and the block is idle at line 0. -/
theorem resetStateHasTheInvariant : Obligations.ResetStateHasTheInvariant := by
  have hline : ¬State.reset.InLine := not_inLine_of_idle rfl
  exact {
    region := rfl
    dp := fun p => by cases p <;> exact DisplayParams.zero_legal
    pointer := fun p i h => by cases p <;> cases h
    width := fun l h => by rcases h with h | h | h <;> cases h
    lineCount := Nat.zero_le _
    quiet := fun _ => rfl
    inLine := fun h => absurd h hline
    pixelsAfterB := fun h => by cases h
    screenOpaque := fun l x _ h => absurd h (not_produced_at_frame_start rfl hline l x) }

end Sys2Proof.Proofs.BlockState

/-! SUPPORT. The raw byte region and the invariant (20_memory R60, R61): what the block does outside a scanline, how a scanline
begins and moves on, what the pixels of a position and the end of a frame do to the buffers, and why each keeps the invariant. -/

namespace Sys2Proof.Machine

/-! ## Effects outside a scanline -/

/-- What the block does outside a scanline and the end of a frame: the region, the tracker's pointers and the buffers are left
alone, display parameters stay decodings, the line counter does not rise, and the block is idle or runs a program
unfaulted. -/
structure OffLineEffect (s t : State) : Prop where
  cfg : t.cfg = s.cfg
  region : t.region = s.region
  dpLegal : (∀ p : Plane, (s.dp.get p).Legal) → ∀ p : Plane, (t.dp.get p).Legal
  mptr : t.mptr = s.mptr
  mlim : t.mlim = s.mlim
  planes : t.planes = s.planes
  screen : t.screen = s.screen
  lineCount : t.y ≤ s.y
  phase : t.phase = .idle ∨ (t.phase = .run ∧ t.fault = none)

/-- Outside a scanline the produced pixels are those of the complete lines. -/
theorem lt_of_produced_offLine {s : State} (h : ¬s.InLine) {l x : Nat} (hp : s.Produced l x) : l < s.y := by
  rcases hp with hl | ⟨_, hin, _⟩
  · exact hl
  · exact absurd hin h

/-- An effect outside a scanline keeps the invariant: a smaller line counter asks for less of the screen. -/
theorem OffLineEffect.inv {s t : State} (he : OffLineEffect s t) (h : s.Inv) : t.Inv := by
  obtain ⟨hcfg, hregion, hdp, hmptr, hmlim, hplanes, hscreen, hy, hphase⟩ := he
  have hout : ¬t.InLine := by rcases hphase with hp | ⟨hp, _⟩ <;> simp [State.InLine, hp]
  exact {
    region := by rw [hcfg, hregion]; exact h.region
    dp := hdp h.dp
    pointer := by rw [hmptr, hmlim]; exact h.pointer
    width := by rw [hcfg, hscreen, hplanes]; exact h.width
    lineCount := by rw [hcfg]; exact hy.trans h.lineCount
    quiet := fun hf => hphase.elim id fun ⟨_, hnone⟩ => absurd hnone hf
    inLine := fun hin => absurd hin hout
    pixelsAfterB := fun hp => absurd (.inr hp) hout
    screenOpaque := fun l x hx hprod => by
      rw [hcfg] at hx ⊢
      rw [hscreen]
      exact h.screenOpaque l x hx (.inl ((lt_of_produced_offLine hout hprod).trans_le hy)) }

variable {s : State}

theorem offLine_raise (s : State) (f : Fault) : OffLineEffect s (s.raise f) :=
  ⟨rfl, rfl, id, rfl, rfl, rfl, rfl, le_rfl, .inl rfl⟩

theorem offLine_endRun (s : State) (e : RunEnd) (d : Payload) : OffLineEffect s (s.endRun e d) :=
  ⟨rfl, rfl, id, rfl, rfl, rfl, rfl, le_rfl, .inl rfl⟩

/-- An idle block that stays at its line and changes registers, tables, inputs, pending calls or records alone. -/
theorem offLine_of_idle {t : State} (hidle : s.phase = .idle)
    (ht : t = { s with
      regs := t.regs
      clut := t.clut
      curpat := t.curpat
      matte := t.matte
      log := t.log
      intDisable := t.intDisable
      calls := t.calls
      outputs := t.outputs }) : OffLineEffect s t := by
  rw [ht]
  exact ⟨rfl, rfl, id, rfl, rfl, rfl, rfl, le_rfl, .inl hidle⟩

/-- A DCP word has an effect outside a scanline, where a run executes it on an unfaulted block. -/
theorem DcpEffect.offLine {t : State} (he : DcpEffect s t) (hrun : s.phase = .run) (hfault : s.fault = none) :
    OffLineEffect s t := by
  obtain ⟨hfields, hphase, _, hquiet, hdp⟩ := he
  have hends : t.phase = .idle ∨ (t.phase = .run ∧ t.fault = none) := by
    by_cases hf : t.fault = none
    · exact hphase.symm.imp_right fun hp => ⟨hp.trans hrun, hf⟩
    · exact .inl (hquiet hfault hf)
  refine ⟨?_, ?_, hdp, ?_, ?_, ?_, ?_, ?_, hends⟩ <;> rw [hfields]

/-- A host's register write has an effect outside a scanline, whether it is stored or faults (46 R296, R297). -/
theorem offLine_hostWrite (hidle : s.phase = .idle) (x : HostReg) (v : Word) : OffLineEffect s (s.hostWrite x v) := by
  cases x with
  | ctl x => exact offLine_of_idle hidle rfl
  | dp p =>
    rcases loadDisplayParams_cases s p (v.setWidth 24) (.hostWrite p v) (fun t => t.emit .done) with
      ⟨w, _, hw, h⟩ | ⟨_, h⟩ <;> rw [State.hostWrite, h]
    · refine ⟨rfl, rfl, fun hl q => ?_, rfl, rfl, rfl, rfl, le_rfl, .inl hidle⟩
      simp only [emit_dp, setDp_dp, AB.get_set]
      split
      · exact hw
      · exact hl q
    · exact offLine_raise s _

/-- A table access has an effect outside a scanline when the access behind its index check has (46 R298). -/
theorem offLine_withIndex (t : Table) (size i : Nat) (go : i < size → State) (hgo : ∀ h, OffLineEffect s (go h)) :
    OffLineEffect s (s.withIndex t size i go) := by
  by_cases h : i < size
  · rw [withIndex_pos go h]; exact hgo h
  · rw [withIndex_neg go (by omega)]; exact offLine_raise s _

/-- The operations of 46 R290 on an idle, unfaulted block: the start of a scanline, the end of a frame, or an effect outside
both. -/
theorem serveOp_cases (hidle : s.phase = .idle) (hfault : s.fault = none) (o : HostOp) :
    (∃ ptrA ptrB, s.serveOp o = s.startLine ptrA ptrB) ∨ s.serveOp o = s.finalize ∨
      OffLineEffect s (s.serveOp o) := by
  cases o with
  | advanceScanline ptrA ptrB => exact .inl ⟨ptrA, ptrB, rfl⟩
  | finalizeFrame => exact .inr (.inl rfl)
  | reset => exact .inr (.inr ⟨rfl, rfl, id, rfl, rfl, rfl, rfl, Nat.zero_le _, .inl hidle⟩)
  | runProgram => exact .inr (.inr ⟨rfl, rfl, id, rfl, rfl, rfl, rfl, le_rfl, .inr ⟨rfl, hfault⟩⟩)
  | readReg => exact .inr (.inr (offLine_of_idle hidle rfl))
  | writeReg x v => exact .inr (.inr (offLine_hostWrite hidle x v))
  | readClut | writeClut | readMatte | writeMatte | readCurpat | writeCurpat =>
    exact .inr (.inr (offLine_withIndex _ _ _ _ fun _ => offLine_of_idle hidle rfl))

/-! ## The start of a scanline (46 R292, 42 R210) -/

/-- The tracker's reset writes pointers, limits and flags. -/
theorem matteReset_eq (s : State) :
    s.matteReset = { s with mptr := s.matteReset.mptr, mlim := s.matteReset.mlim, mflag := s.matteReset.mflag } := by
  unfold State.matteReset
  dsimp only
  split
  · rfl
  · split <;> rfl

/-- The three ways the tracker's reset sets the pointers and limits: two mattes, one matte on plane A, one on plane B
(42 R210). -/
theorem matteReset_queues (s : State) :
    (s.matteReset.mptr = ⟨some 0, some 4⟩ ∧ s.matteReset.mlim = ⟨.four, .eight⟩) ∨
    (s.matteReset.mptr = ⟨some 0, none⟩ ∧ s.matteReset.mlim = ⟨.eight, .eight⟩) ∨
    (s.matteReset.mptr = ⟨none, some 0⟩ ∧ s.matteReset.mlim = ⟨.eight, .eight⟩) := by
  unfold State.matteReset
  dsimp only
  split
  · exact .inl ⟨rfl, rfl⟩
  · split
    · exact .inr (.inl ⟨rfl, rfl⟩)
    · exact .inr (.inr ⟨rfl, rfl⟩)

/-- After the tracker's reset each pointer stands below its limit. -/
theorem matteReset_pointer (s : State) (p : Plane) (i : Fin 8) (h : s.matteReset.mptr.get p = some i) :
    i.val < (s.matteReset.mlim.get p).val := by
  rcases matteReset_queues s with ⟨hptr, hlim⟩ | ⟨hptr, hlim⟩ | ⟨hptr, hlim⟩ <;>
    rw [hptr] at h <;> rw [hlim] <;> cases p <;> cases h <;> decide

/-- The start of a line writes the tracker, the carry, the backdrop and the line's locals. -/
theorem beginLine_eq (s : State) (dA dB : Decoded) :
    s.beginLine dA dB = { s with
      mptr := s.matteReset.mptr
      mlim := s.matteReset.mlim
      mflag := s.matteReset.mflag
      carry := ⟨dA.carry, dB.carry⟩
      bdstrip := padSet Px.clear s.bdstrip s.y s.backdropPx
      line := ⟨.a, 0, ⟨dA.px, dB.px⟩, dA.usedA + dB.usedA, dA.usedB + dB.usedB⟩
      phase := .matte } := by
  unfold State.beginLine
  rw [matteReset_eq]

/-- A line begun below the last one, with two decoded lines of full width, has the invariant: its backdrop is opaque (44 R250)
and none of its pixels has been produced. -/
theorem beginLine_inv (h : s.Inv) (hfault : s.fault = none) (hy : s.y < s.cfg.height)
    {dA dB : Decoded} (hA : dA.px.length = s.cfg.width) (hB : dB.px.length = s.cfg.width) :
    (s.beginLine dA dB).Inv := by
  have hwidth := Config.width_eq s.cfg
  rw [beginLine_eq]
  exact {
    region := h.region
    dp := h.dp
    pointer := matteReset_pointer s
    width := h.width
    lineCount := h.lineCount
    quiet := fun hf => absurd hfault hf
    inLine := fun _ => by
      refine ⟨hy, ?_, fun p => ?_, ?_⟩
      · dsimp only; omega
      · cases p
        · exact hA
        · exact hB
      · dsimp only
        rw [padGet_padSet, if_pos rfl]
        rfl
    pixelsAfterB := fun hp => nomatch hp
    screenOpaque := fun l x hx hprod => by
      rcases hprod with hl | ⟨_, _, hx'⟩
      · exact h.screenOpaque l x hx (.inl hl)
      · exact absurd hx' (by simp) }

theorem startLine_inv (h : s.Inv) (hfault : s.fault = none) (ptrA ptrB : Nat) :
    (s.startLine ptrA ptrB).Inv := by
  rcases startLine_cases s ptrA ptrB with ⟨f, e⟩ | ⟨hy, dA, dB, hA, hB, e⟩ <;> rw [e]
  · exact (offLine_raise s f).inv h
  · exact beginLine_inv h hfault hy (decodePlane_length hA) (decodePlane_length hB)

@[simp] theorem startLine_region (s : State) (ptrA ptrB : Nat) : (s.startLine ptrA ptrB).region = s.region := by
  rcases startLine_cases s ptrA ptrB with ⟨f, e⟩ | ⟨_, dA, dB, _, _, e⟩ <;> rw [e]
  · rfl
  · rw [beginLine_eq]

/-! ## The tracker's steps (42 R211) -/

/-- A scanline in progress moves on to a plane's tracker step, or to the pixels after plane B's. -/
theorem inv_nextTurn (h : s.Inv) (hline : s.InLine) (hfault : s.fault = none) {p : Plane} {ph : Phase}
    (hph : ph = .pixels → p = .b) : ({ s with line := { s.line with plane := p }, phase := ph } : State).Inv where
  region := h.region
  dp := h.dp
  pointer := h.pointer
  width := h.width
  lineCount := h.lineCount
  quiet := fun hf => absurd hfault hf
  inLine := fun _ => h.inLine hline
  pixelsAfterB := hph
  screenOpaque := fun l x hx hprod => h.screenOpaque l x hx (hprod.imp_right fun ⟨hl, _, hk⟩ => ⟨hl, hline, hk⟩)

/-- A matte command keeps the invariant of a scanline in progress: the line goes on, or a fault leaves it. -/
theorem MatteEffect.inv {t : State} (he : MatteEffect s t) (h : s.Inv) (hmatte : s.phase = .matte)
    (hfault : s.fault = none) : t.Inv := by
  obtain ⟨hfields, hphase, _, hquiet, _, hpointer⟩ := he
  have hnotPixels : t.phase ≠ .pixels := by
    rcases hphase with hp | ⟨hp, _⟩ <;> simp [hp, hmatte]
  rw [hfields]
  exact {
    region := h.region
    dp := h.dp
    pointer := hpointer h.pointer
    width := h.width
    lineCount := h.lineCount
    quiet := hquiet hfault
    inLine := fun _ => h.inLine (.inl hmatte)
    pixelsAfterB := fun hp => absurd hp hnotPixels
    screenOpaque := fun l x hx hprod =>
      h.screenOpaque l x hx (hprod.imp_right fun ⟨hl, _, hk⟩ => ⟨hl, .inl hmatte, hk⟩) }

/-- What follows a tracker step, with or without a fault, keeps the invariant. -/
theorem afterMatte_inv (h : s.Inv) (hmatte : s.fault = none → s.phase = .matte) : s.afterMatte.Inv := by
  unfold State.afterMatte
  split
  · exact h
  · next hf =>
    have hfault : s.fault = none := by simpa using hf
    have hline : s.InLine := .inl (hmatte hfault)
    split
    · exact inv_nextTurn h hline hfault (by simp)
    · next hplane =>
      have hkeep : { s.line with plane := .b } = s.line := by rw [← hplane]
      have hinv := inv_nextTurn (ph := .pixels) h hline hfault fun _ => rfl
      rwa [hkeep] at hinv

@[simp] theorem afterMatte_region (s : State) : s.afterMatte.region = s.region := by
  unfold State.afterMatte
  split
  · rfl
  · split <;> rfl

/-! ## The pixels of a position (46 R292, 44 R255) -/

/-- The invariant's width clause, buffer by buffer. -/
theorem State.Inv.wide (h : s.Inv) :
    GridWide s.cfg.width s.screen ∧ GridWide s.cfg.width s.planes.a ∧ GridWide s.cfg.width s.planes.b :=
  ⟨fun l hl => h.width l (.inl hl), fun l hl => h.width l (.inr (.inl hl)), fun l hl => h.width l (.inr (.inr hl))⟩

/-- After a column is produced over an opaque backdrop, a pixel that is the column's own, or was opaque before, is opaque. -/
theorem producePixel_opaque (hs : GridWide s.cfg.width s.screen) (ha : GridWide s.cfg.width s.planes.a)
    (hb : GridWide s.cfg.width s.planes.b) (hbd : (padGet Px.clear s.bdstrip s.y).a = 255) {x : Nat}
    (hx : x < s.cfg.width) {l x' : Nat}
    (hold : ¬(l = s.y ∧ x' = x) → (Grid.pixelAt s.cfg.width s.screen l x').a = 255) :
    (Grid.pixelAt s.cfg.width (s.producePixel x).screen l x').a = 255 := by
  rw [producePixel_screen s x ha hb hx, pixelAt_write hs _ _ _ _ _ hx]
  split
  · exact compositePx_opaque s x hbd
  · next hne => exact hold hne

/-- After the two columns of a position every pixel before the next position is opaque. -/
theorem producePixels_opaque (h : s.Inv) (hline : s.InLine) {l x : Nat} (hx : x < s.cfg.width)
    (hbefore : l < s.y ∨ (l = s.y ∧ x < 2 * (s.line.k + 1))) :
    (Grid.pixelAt s.cfg.width ((s.producePixel (2 * s.line.k)).producePixel (2 * s.line.k + 1)).screen l x).a = 255 := by
  obtain ⟨hs, ha, hb⟩ := h.wide
  obtain ⟨hs', ha', hb'⟩ := producePixel_wide s (2 * s.line.k) hs ha hb
  obtain ⟨_, hk, _, hbd⟩ := h.inLine hline
  refine producePixel_opaque (s := s.producePixel (2 * s.line.k)) hs' ha' hb' hbd ?_ fun hodd => ?_
  · rw [producePixel_cfg]; omega
  · refine producePixel_opaque hs ha hb hbd (by omega) fun heven => ?_
    refine h.screenOpaque l x hx (hbefore.imp_right fun ⟨hl, hlt⟩ => ⟨hl, hline, ?_⟩)
    have hodd' : x ≠ 2 * s.line.k + 1 := fun e => hodd ⟨hl, e⟩
    have heven' : x ≠ 2 * s.line.k := fun e => heven ⟨hl, e⟩
    omega

/-- The two columns of a position keep the buffers' widths. -/
theorem producePixels_wide (h : s.Inv) (x x' : Nat) (l : Line)
    (hl : l ∈ ((s.producePixel x).producePixel x').screen ∨ l ∈ ((s.producePixel x).producePixel x').planes.a ∨
      l ∈ ((s.producePixel x).producePixel x').planes.b) : l.length = s.cfg.width := by
  obtain ⟨hs, ha, hb⟩ := h.wide
  obtain ⟨hs', ha', hb'⟩ := producePixel_wide s x hs ha hb
  obtain ⟨hs'', ha'', hb''⟩ := producePixel_wide (s.producePixel x) x' hs' ha' hb'
  rcases hl with hl | hl | hl
  exacts [hs'' l hl, ha'' l hl, hb'' l hl]

/-- The pixels of a position keep the invariant, whether another position follows or the line is complete. -/
theorem pixelStep_inv (h : s.Inv) (hpixels : s.phase = .pixels) (hfault : s.fault = none) : s.pixelStep.Inv := by
  have hline : s.InLine := .inr hpixels
  have hcolumns := Config.width_eq s.cfg
  obtain ⟨hy, hk, hlen, hbd⟩ := h.inLine hline
  have hwide := producePixels_wide h (2 * s.line.k) (2 * s.line.k + 1)
  have hopaque (l x : Nat) (hx : x < s.cfg.width) := producePixels_opaque h hline (l := l) hx
  obtain ⟨t, ht, hfields, hcase⟩ := pixelStep_cases s
  generalize (s.producePixel (2 * s.line.k)).producePixel (2 * s.line.k + 1) = u at hwide hopaque hfields
  rw [ht, hfields]
  rcases hcase with ⟨hnext, htline, htphase, hty, _⟩ | ⟨hend, htline, htphase, hty, _⟩ <;>
    rw [htline, htphase, hty]
  · exact {
      region := h.region
      dp := h.dp
      pointer := h.pointer
      width := hwide
      lineCount := h.lineCount
      quiet := fun hf => absurd hfault hf
      inLine := fun _ => ⟨hy, hnext, hlen, hbd⟩
      pixelsAfterB := fun hp => nomatch hp
      screenOpaque := fun l x hx hprod => hopaque l x hx (hprod.imp_right fun ⟨hl, _, hlt⟩ => ⟨hl, hlt⟩) }
  · refine {
      region := h.region
      dp := h.dp
      pointer := h.pointer
      width := hwide
      lineCount := hy
      quiet := fun _ => rfl
      inLine := fun hin => absurd hin (not_inLine_of_idle rfl)
      pixelsAfterB := fun hp => nomatch hp
      screenOpaque := fun l x hx hprod => hopaque l x hx ?_ }
    have hl := lt_of_produced_offLine (not_inLine_of_idle rfl) hprod
    dsimp only at hl hx
    omega

@[simp] theorem pixelStep_region (s : State) : s.pixelStep.region = s.region := by
  obtain ⟨t, ht, hfields, _⟩ := pixelStep_cases s
  rw [ht, hfields]

/-! ## The end of a frame (46 R294, 45 R274) -/

/-- Drawing the cursor keeps the invariant: it paints whole pixels of an opaque colour within the screen. -/
theorem drawCursor_inv (h : s.Inv) (hidle : s.phase = .idle) : s.drawCursor.Inv := by
  unfold State.drawCursor
  split
  · obtain ⟨hs, ha, hb⟩ := h.wide
    exact {
      region := h.region
      dp := h.dp
      pointer := h.pointer
      width := fun l hl => hl.elim (paint_wide s.cursorColour s.cursorCells hs l) fun hl => hl.elim (ha l) (hb l)
      lineCount := h.lineCount
      quiet := h.quiet
      inLine := fun hin => absurd hin (not_inLine_of_idle hidle)
      pixelsAfterB := h.pixelsAfterB
      screenOpaque := fun l x hx hprod => by
        have hcells : ∀ q ∈ s.cursorCells, q.2 < s.cfg.width := fun q hq => by
          obtain ⟨_, _, _, _, _, _, _, _, hq2⟩ := (mem_cursorCells s q.1 q.2).mp hq
          exact hq2
        dsimp only
        rw [pixelAt_paint _ _ hs hcells]
        split
        · exact cursorColour_opaque s
        · exact h.screenOpaque l x hx hprod }
  · exact h

/-- The end of a frame after the cursor is drawn: the blink tick, line 0 and the two outputs. -/
theorem offLine_closeFrame (hidle : s.phase = .idle) (outs : List Output) :
    OffLineEffect s { s.blinkTick with y := 0, outputs := outs } := by
  rw [blinkTick_eq]
  exact ⟨rfl, rfl, id, rfl, rfl, rfl, rfl, Nat.zero_le _, .inl hidle⟩

theorem finalize_inv (h : s.Inv) (hidle : s.phase = .idle) : s.finalize.Inv := by
  rcases finalize_cases s with ⟨f, e⟩ | ⟨_, _, e⟩ <;> rw [e]
  · exact (offLine_raise s f).inv h
  · have hidle' : s.drawCursor.phase = .idle := by rw [drawCursor_eq]; exact hidle
    exact (offLine_closeFrame hidle' _).inv (drawCursor_inv h hidle)

@[simp] theorem finalize_region (s : State) : s.finalize.region = s.region := by
  rcases finalize_cases s with ⟨f, e⟩ | ⟨_, _, e⟩ <;> rw [e]
  · rfl
  · rw [blinkTick_eq, drawCursor_eq]

/-! ## The host's calls (46 R290, 60 R330) -/

theorem serveOp_inv (h : s.Inv) (hidle : s.phase = .idle) (hfault : s.fault = none) (o : HostOp) :
    (s.serveOp o).Inv := by
  rcases serveOp_cases hidle hfault o with ⟨ptrA, ptrB, e⟩ | e | he
  · rw [e]; exact startLine_inv h hfault ptrA ptrB
  · rw [e]; exact finalize_inv h hidle
  · exact he.inv h

theorem serveOp_region (hidle : s.phase = .idle) (hfault : s.fault = none) (o : HostOp) :
    (s.serveOp o).region = s.region := by
  rcases serveOp_cases hidle hfault o with ⟨ptrA, ptrB, e⟩ | e | he
  · rw [e, startLine_region]
  · rw [e, finalize_region]
  · exact he.region

/-- A host's write of the region keeps the invariant: the region stays canonical (20_memory R60). -/
theorem writeByte_inv (h : s.Inv) (a : Nat) (v : Byte) : (s.writeByte a v).Inv where
  region := writeByte_wf s a v h.region
  dp := h.dp
  pointer := h.pointer
  width := h.width
  lineCount := h.lineCount
  quiet := h.quiet
  inLine := h.inLine
  pixelsAfterB := h.pixelsAfterB
  screenOpaque := h.screenOpaque

theorem serve_inv (h : s.Inv) (hidle : s.phase = .idle) (c : HostCall) : (s.serve c).Inv := by
  cases c with
  | op o =>
    cases hfault : s.fault with
    | some f =>
      have he : OffLineEffect s (s.emit (.faulted f)) := offLine_of_idle hidle rfl
      simpa only [State.serve, hfault] using he.inv h
    | none => simpa only [State.serve, hfault] using serveOp_inv h hidle hfault o
  | writeRegion a v => exact writeByte_inv h a v
  | setIntDisable ch v =>
    have he : OffLineEffect s (s.serve (.setIntDisable ch v)) := offLine_of_idle hidle rfl
    exact he.inv h

/-- Only a host's write of the region changes it (20_memory R61). -/
theorem serve_region (hidle : s.phase = .idle) {c : HostCall} (hc : ∀ a v, c ≠ .writeRegion a v) :
    (s.serve c).region = s.region := by
  cases c with
  | op o =>
    cases hfault : s.fault with
    | some f => simp only [State.serve, hfault, emit_region]
    | none => simpa only [State.serve, hfault] using serveOp_region hidle hfault o
  | writeRegion a v => exact absurd rfl (hc a v)
  | setIntDisable ch v => rfl

/-- An idle step with no call at hand keeps the state (60 R330). -/
theorem idleStep_nil (hc : s.calls = []) : s.idleStep = s := by simp only [State.idleStep, hc]

/-- An idle step serves the call at hand, on the state without it (60 R330). -/
theorem idleStep_cons {c : HostCall} {rest : List HostCall} (hc : s.calls = c :: rest) :
    s.idleStep = ({ s with calls := rest } : State).serve c := by simp only [State.idleStep, hc]

theorem idleStep_inv (h : s.Inv) (hidle : s.phase = .idle) : s.idleStep.Inv := by
  cases hc : s.calls with
  | nil => rwa [idleStep_nil hc]
  | cons c rest =>
    have he : OffLineEffect s { s with calls := rest } := offLine_of_idle hidle rfl
    rw [idleStep_cons hc]
    exact serve_inv (he.inv h) hidle c

theorem idleStep_region (hidle : s.phase = .idle) (hno : ∀ a v rest, s.calls ≠ .writeRegion a v :: rest) :
    s.idleStep.region = s.region := by
  cases hc : s.calls with
  | nil => rw [idleStep_nil hc]
  | cons c rest =>
    rw [idleStep_cons hc]
    exact serve_region (s := { s with calls := rest }) hidle fun a v e => hno a v rest (by rw [hc, e])

/-! ## One step -/

/-- A block that is not idle has no fault (60 R313). -/
theorem State.Inv.fault_eq_none (h : s.Inv) (hbusy : s.phase ≠ .idle) : s.fault = none :=
  not_not.mp fun hf => hbusy (h.quiet hf)

theorem runStep_inv {t : State} (h : s.Inv) (hrun : s.phase = .run) (ht : s.runStep = .next t) : t.Inv := by
  have hfault := h.fault_eq_none (by simp [hrun])
  rcases runStep_cases s with ⟨_, e⟩ | ⟨_, _, e⟩ | ⟨_, _, u, e, he⟩ <;> cases e.symm.trans ht
  · exact (offLine_endRun s _ _).inv h
  · exact (offLine_raise s _).inv h
  · have hfetch : OffLineEffect s s.afterFetch :=
      ⟨rfl, rfl, id, rfl, rfl, rfl, rfl, le_rfl, .inr ⟨hrun, hfault⟩⟩
    exact (he.offLine hrun hfault).inv (hfetch.inv h)

theorem matteStep_inv {t : State} (h : s.Inv) (hmatte : s.phase = .matte) (ht : s.matteStep = .next t) : t.Inv := by
  have hfault := h.fault_eq_none (by simp [hmatte])
  obtain ⟨u, he, e⟩ := matteStep_cases s
  cases e.symm.trans ht
  refine afterMatte_inv (he.inv h hmatte hfault) fun hf => ?_
  rcases he.phase with hp | ⟨_, hf'⟩
  · exact hp.trans hmatte
  · exact absurd hf hf'

theorem runStep_region {t : State} (ht : s.runStep = .next t) : t.region = s.region := by
  rcases runStep_cases s with ⟨_, e⟩ | ⟨_, _, e⟩ | ⟨_, _, u, e, he⟩ <;> cases e.symm.trans ht
  · rfl
  · rfl
  · rw [he.fields]; rfl

theorem matteStep_region {t : State} (ht : s.matteStep = .next t) : t.region = s.region := by
  obtain ⟨u, he, e⟩ := matteStep_cases s
  cases e.symm.trans ht
  rw [afterMatte_region, he.fields]

/-- No step but an idle one that serves the host's write of the region changes the region (20_memory R61). -/
theorem step_region {t : State} (ht : step s = .next t)
    (hno : s.phase = .idle → ∀ a v rest, s.calls ≠ .writeRegion a v :: rest) : t.region = s.region := by
  cases hphase : s.phase with
  | idle =>
    cases (step_idle hphase).symm.trans ht
    exact idleStep_region hphase (hno hphase)
  | run => exact runStep_region ((step_run hphase).symm.trans ht)
  | matte => exact matteStep_region ((step_matte hphase).symm.trans ht)
  | pixels =>
    cases (step_pixels hphase).symm.trans ht
    exact pixelStep_region s

theorem step_cfg {t : State} (ht : step s = .next t) : t.cfg = s.cfg := by
  obtain ⟨u, hu, hcfg⟩ := Proofs.Scope.everyStepAnswersNextWithTheSameParameters s
  cases hu.symm.trans ht
  exact hcfg

end Sys2Proof.Machine

namespace Sys2Proof.Proofs.RawMemory

open Sys2Proof.Machine

/-- Settles O40: one case for each phase of the block. -/
theorem everyStepKeepsTheInvariant : Obligations.EveryStepKeepsTheInvariant := by
  intro s t h ht
  cases hphase : s.phase with
  | idle =>
    cases (step_idle hphase).symm.trans ht
    exact idleStep_inv h hphase
  | run => exact runStep_inv h hphase ((step_run hphase).symm.trans ht)
  | matte => exact matteStep_inv h hphase ((step_matte hphase).symm.trans ht)
  | pixels =>
    cases (step_pixels hphase).symm.trans ht
    exact pixelStep_inv h hphase (h.fault_eq_none (by simp [hphase]))

/-- Settles O44: the bytes follow from the region and the parameters, which no step changes. -/
theorem regionIsReadOnlyToTheBlock : Obligations.RegionIsReadOnlyToTheBlock := by
  intro s t ht
  have hkept (hno : s.phase = .idle → ∀ a v rest, s.calls ≠ .writeRegion a v :: rest) :
      t.region = s.region ∧ SameBytes s t :=
    ⟨step_region ht hno, byteAt_congr (step_region ht hno) (step_cfg ht)⟩
  exact ⟨fun hbusy => hkept fun hidle => absurd hidle hbusy, fun hno => hkept fun _ => hno⟩

/-- Settles O45: an idle step with each host input at hand, and with no call. -/
theorem hostInputsLandBetweenOperations : Obligations.HostInputsLandBetweenOperations := by
  intro s hidle
  refine ⟨fun a v rest hwf hc => ?_, fun ch v rest hc => ?_, fun hc => ?_⟩
  · rw [step_idle hidle, idleStep_cons hc]
    exact ⟨_, rfl, writeByte_wf { s with calls := rest } a v hwf,
      fun b => byteAt_writeByte { s with calls := rest } a b v hwf, rfl⟩
  · rw [step_idle hidle, idleStep_cons hc]
    refine ⟨_, rfl, fun c => ?_, rfl⟩
    cases c <;> cases ch <;> rfl
  · rw [step_idle hidle, idleStep_nil hc]

end Sys2Proof.Proofs.RawMemory

/-! SUPPORT. The encoding (30_encoding R80 to R84, R97, R98): what the opcode byte selects, and that the encoder inverts the
decoder, class by class; and the pixels of a position, which the fields of `TC`, `PO` and `ICF_p` decide (R87, R89, R93). -/

namespace Sys2Proof

/-! ## The opcode byte (30_encoding R81) -/

/-- A word is its opcode byte followed by its payload (30_encoding R80). -/
theorem dcpWord_eta (w : Word) : dcpWord (w.extractLsb' 24 8) (w.extractLsb' 0 24) = w := by
  apply BitVec.eq_of_getLsbD_eq
  intro i hi
  refine BitVec.getLsbD_append.trans ?_
  split
  · simp_all
  · rw [BitVec.getLsbD_extractLsb', Nat.add_sub_cancel' (by omega)]
    simp; omega

/-- The bits that the class test of R81 reads, by the value of the byte. -/
theorem getLsbD_seven_eq_false_iff : ∀ op : Byte, op.getLsbD 7 = false ↔ op.toNat < 0x80 := by decide

/-- A byte below 0x80 is the code of a control operation and the nibble that R85 ignores. -/
theorem control_byte : ∀ op : Byte, op.toNat < 0x80 → op = (op.extractLsb' 4 3).setWidth 4 ++ op.extractLsb' 0 4 := by
  decide

/-- Bits 6:4 of a byte below 0x80 are its upper nibble. -/
theorem control_code_toNat : ∀ op : Byte, op.toNat < 0x80 → (op.extractLsb' 4 3).toNat = op.toNat / 16 := by decide

/-- A byte of the CLUT range is its first byte plus the offset (30_encoding R81). -/
theorem clut_byte : ∀ op : Byte, 0x80 ≤ op.toNat → op.toNat ≤ 0xBF →
    op = 0b10#2 ++ BitVec.ofNat 6 (op.toNat - 0x80) := by decide

/-- A byte of the matte range is its first byte plus the offset (30_encoding R81). -/
theorem matte_byte : ∀ op : Byte, 0xD0 ≤ op.toNat → op.toNat ≤ 0xD7 →
    op = 0b11010#5 ++ BitVec.ofNat 3 (op.toNat - 0xD0) := by decide

/-- A byte below 0x80 selects the operation of its upper nibble, with its low nibble (30_encoding R81, R82). -/
theorem decodeDcp_controlByte (m : DcpMaps) (op : Byte) (d : Payload) (h : op.toNat < 0x80) :
    decodeDcp m (dcpWord op d) = decodeControl m (op.extractLsb' 4 3) (op.extractLsb' 0 4) d := by
  rw [dcpWord, decodeDcp_append, if_pos ((getLsbD_seven_eq_false_iff op).mpr h)]

/-- A byte of the CLUT range selects a CLUT load with its offset. -/
theorem decodeDcp_clutByte (m : DcpMaps) (op : Byte) (d : Payload) (hlo : 0x80 ≤ op.toNat) (hhi : op.toNat ≤ 0xBF) :
    decodeDcp m (dcpWord op d) = .loadClut (BitVec.ofNat 6 (op.toNat - 0x80)) d := by
  conv_lhs => rw [clut_byte op hlo hhi]
  exact decodeDcp_clut m _ d

/-- A byte of the matte range selects a matte load with its offset. -/
theorem decodeDcp_matteByte (m : DcpMaps) (op : Byte) (d : Payload) (hlo : 0xD0 ≤ op.toNat) (hhi : op.toNat ≤ 0xD7) :
    decodeDcp m (dcpWord op d) = .loadMatte (BitVec.ofNat 3 (op.toNat - 0xD0)) d := by
  conv_lhs => rw [matte_byte op hlo hhi]
  exact decodeDcp_matte m _ d

/-- The load that a map finds for a byte has that byte (30_encoding R83). -/
theorem DcpMaps.code_of_find {m : DcpMaps} {op : Byte} {l : RegLoad} (h : m.find op = some l) : m.code l = op := by
  simpa using List.find?_some h

theorem decodeRegLoad_of_find {m : DcpMaps} {op : Byte} {l : RegLoad} (h : m.find op = some l) (d : Payload) :
    decodeRegLoad m op d = l.instr d := by
  rw [decodeRegLoad, h]

theorem decodeRegLoad_of_find_none {m : DcpMaps} {op : Byte} (h : m.find op = none) (d : Payload) :
    decodeRegLoad m op d = unknownOf op d := by
  rw [decodeRegLoad, h]

/-- Each row that an unknown byte can select is named UNKNOWN (30_encoding R84). -/
theorem unknownOf_mnemonic (op : Byte) (d : Payload) : (unknownOf op d).mnemonic = "UNKNOWN" := by
  unfold unknownOf
  split <;> rfl

/-- The operation that the default map gives each code, by name (30_encoding R82). -/
theorem default_control_mnemonic (x : BitVec 4) (d : Payload) : ∀ kind : Fin 8,
    ((defaultDcpMaps.ctrl[kind]).instr x d).mnemonic =
      ["STOP", "NOP", "RELOAD_DCP", "RELOAD_DCP_STOP", "RELOAD_VSR", "RELOAD_VSR_STOP", "SIGNAL", "LOAD_DP"].getD kind.val ""
  | 0 | 1 | 2 | 3 | 4 | 5 | 6 | 7 => rfl

/-- The bytes to which the default map gives no load, from 0xC0 on and outside the matte range (30_encoding R83, R84). -/
theorem find_default_none : ∀ op : Byte, op ∈ [(0xC5 : Byte), 0xC8, 0xCC, 0xDD, 0xDE, 0xDF] ∨ 0xE0 ≤ op.toNat →
    0xC0 ≤ op.toNat ∧ ¬(0xD0 ≤ op.toNat ∧ op.toNat ≤ 0xD7) ∧ defaultDcpMaps.find op = none := by decide +kernel

/-! ## Encoding what a word decodes to (30_encoding R82 to R84) -/

/-- The instruction is well formed and its bytes are those of `w`. -/
def EncodesTo (i : Instr) (w : Word) : Prop := i.wellFormed = true ∧ encode i = bytesOfWord w

/-- The word of a control operation holds the code that the default map gives the operation. -/
theorem encodesTo_control (x : BitVec 4) (d : Payload) (k : Control) :
    EncodesTo (k.instr x d) (controlWord ((defaultDcpMaps.controlCode k).setWidth 4) x d) := by
  cases k <;> exact ⟨rfl, rfl⟩

/-- In the default map no two codes have the same operation. -/
theorem controlCode_default : ∀ kind : BitVec 3,
    defaultDcpMaps.controlCode (defaultDcpMaps.ctrl[kind.toNat]'kind.isLt) = kind := by decide

/-- The word of a control operation is kept, with its code and its ignored nibble (30_encoding R82, R85). -/
theorem encodesTo_decodeControl (kind : BitVec 3) (x : BitVec 4) (d : Payload) :
    EncodesTo (decodeControl defaultDcpMaps kind x d) (controlWord (kind.setWidth 4) x d) := by
  have h := encodesTo_control x d (defaultDcpMaps.ctrl[kind.toNat]'kind.isLt)
  rwa [controlCode_default] at h

/-- The word of a register load holds the byte that the default map gives the load. -/
theorem encodesTo_regLoad (d : Payload) (l : RegLoad) : EncodesTo (l.instr d) (dcpWord (defaultDcpMaps.code l) d) := by
  cases l <;> exact ⟨rfl, rfl⟩

/-- A byte without a load that has no row of its own is in the range of the last row (30_encoding R84). -/
theorem unknownE0_of_find_none : ∀ op : Byte, 0xC0 ≤ op.toNat → ¬(0xD0 ≤ op.toNat ∧ op.toNat ≤ 0xD7) →
    defaultDcpMaps.find op = none → op.toNat ∉ [0xC5, 0xC8, 0xCC, 0xDD, 0xDE, 0xDF] →
    (op.extractLsb' 5 3 == 7#3) = true := by decide +kernel

/-- The word of an unknown byte is kept by its row. -/
theorem encodesTo_unknownOf (op : Byte) (d : Payload) (h : 0xC0 ≤ op.toNat)
    (hm : ¬(0xD0 ≤ op.toNat ∧ op.toNat ≤ 0xD7)) (hnone : defaultDcpMaps.find op = none) :
    EncodesTo (unknownOf op d) (dcpWord op d) := by
  have hrow {b : Byte} {i : Instr} (hop : op.toNat = b.toNat) (hi : EncodesTo i (dcpWord b d)) :
      EncodesTo i (dcpWord op d) := BitVec.eq_of_toNat_eq hop ▸ hi
  unfold unknownOf
  split
  case h_1 hop => exact hrow (b := 0xC5) hop ⟨rfl, rfl⟩
  case h_2 hop => exact hrow (b := 0xC8) hop ⟨rfl, rfl⟩
  case h_3 hop => exact hrow (b := 0xCC) hop ⟨rfl, rfl⟩
  case h_4 hop => exact hrow (b := 0xDD) hop ⟨rfl, rfl⟩
  case h_5 hop => exact hrow (b := 0xDE) hop ⟨rfl, rfl⟩
  case h_6 hop => exact hrow (b := 0xDF) hop ⟨rfl, rfl⟩
  case h_7 => exact ⟨unknownE0_of_find_none op h hm hnone (by simp_all), rfl⟩

/-- Every word of the default encoding is that of the instruction it decodes to, one class of R81 after the other. -/
theorem encodesTo_decodeDcp (op : Byte) (d : Payload) :
    EncodesTo (decodeDcp defaultDcpMaps (dcpWord op d)) (dcpWord op d) := by
  by_cases hctl : op.toNat < 0x80
  · rw [decodeDcp_controlByte _ op d hctl]
    have h := encodesTo_decodeControl (op.extractLsb' 4 3) (op.extractLsb' 0 4) d
    rwa [controlWord, ← control_byte op hctl] at h
  by_cases hclut : op.toNat ≤ 0xBF
  · rw [decodeDcp_clutByte _ op d (by omega) hclut]
    refine ⟨rfl, ?_⟩
    rw [encode, ← clut_byte op (by omega) hclut]
  by_cases hmatte : 0xD0 ≤ op.toNat ∧ op.toNat ≤ 0xD7
  · obtain ⟨hlo, hhi⟩ := hmatte
    rw [decodeDcp_matteByte _ op d hlo hhi]
    refine ⟨rfl, ?_⟩
    rw [encode, ← matte_byte op hlo hhi]
  rw [decodeDcp_regLoad _ op d (by omega) hmatte]
  cases hfind : defaultDcpMaps.find op with
  | some l =>
    rw [decodeRegLoad_of_find hfind, ← DcpMaps.code_of_find hfind]
    exact encodesTo_regLoad d l
  | none =>
    rw [decodeRegLoad_of_find_none hfind]
    exact encodesTo_unknownOf op d (by omega) hmatte hfind

/-! ## Matte entries (30_encoding R97, R98) -/

/-- A command's bytes are those of its entry, with the same opcode and fields. -/
theorem encode_decodeMatteFields (mop : BitVec 4) (mf : BitVec 1) (micf : BitVec 6) (mxp : BitVec 9) :
    encode (decodeMatteFields mop mf micf mxp) = bytesOfEntry (matteEntry mop mf micf mxp) := by
  obtain ⟨⟨op, hop⟩⟩ := mop
  interval_cases op <;> rfl

/-- The command of each opcode, by name (30_encoding R98). -/
theorem decodeMatteFields_mnemonic (mop : BitVec 4) (mf : BitVec 1) (micf : BitVec 6) (mxp : BitVec 9) :
    (decodeMatteFields mop mf micf mxp).mnemonic =
      ["M_END", "M_RSVD", "M_RSVD", "M_RSVD", "M_ICF_A", "M_RSVD", "M_ICF_B", "M_RSVD", "M_CLR", "M_SET", "M_RSVD",
        "M_RSVD", "M_ICF_A_CLR", "M_ICF_A_SET", "M_ICF_B_CLR", "M_ICF_B_SET"].getD mop.toNat "" := by
  obtain ⟨⟨op, hop⟩⟩ := mop
  interval_cases op <;> rfl

/-- A field of `n` bits as a number: the entry divided by the field's place, modulo its range. -/
theorem field_toNat (c : Payload) (lo n : Nat) : (c.extractLsb' lo n).toNat = c.toNat / 2 ^ lo % 2 ^ n := by
  rw [BitVec.extractLsb'_toNat, Nat.shiftRight_eq_div_pow]

/-- The four fields of an entry put back in their places are the entry without the bits that R97 does not name. -/
theorem matteEntry_of_fields (c : Payload) :
    matteEntry (matteOp defaultMatteLayout c) (matteFlagIndex defaultMatteLayout c) (matteFactor defaultMatteLayout c)
      (matteX defaultMatteLayout c) = c &&& 0xF1FFFE := by
  apply BitVec.eq_of_getLsbD_eq
  intro i hi
  simp only [matteEntry, matteOp, matteFlagIndex, matteFactor, matteX, defaultMatteLayout, BitVec.getLsbD_append,
    BitVec.getLsbD_extractLsb', BitVec.getLsbD_and]
  interval_cases i <;> simp

end Sys2Proof

namespace Sys2Proof.Machine

/-! ## The pixels of a position, column by column (43 R230, 44 R252 to R255, 46 R292) -/

section Position

variable {s : State}

theorem Config.two_columns {c : Config} {k : Nat} (h : k < c.width / 2) : 2 * k < c.width ∧ 2 * k + 1 < c.width := by omega

/-- A plane's buffer after a column is produced: its resolved pixel is written. -/
theorem producePixel_planes (s : State) (x : Nat) (p : Plane) :
    (s.producePixel x).planes.get p = Grid.write s.cfg.width (s.planes.get p) s.y x (s.resolvedPx p x) := by
  cases p <;> rfl

/-- What is resolved and composited at a column does not depend on the columns produced before. -/
@[simp] theorem producePixel_resolvedPx (s : State) (x x' : Nat) (p : Plane) :
    (s.producePixel x).resolvedPx p x' = s.resolvedPx p x' := rfl

@[simp] theorem producePixel_compositePx (s : State) (x x' : Nat) :
    (s.producePixel x).compositePx x' = s.compositePx x' := rfl

theorem State.Inv.planesWide (h : s.Inv) (p : Plane) : GridWide s.cfg.width (s.planes.get p) := by
  obtain ⟨-, ha, hb⟩ := h.wide
  cases p
  exacts [ha, hb]

/-- Two writes on a line, of the pixels that `f` gives their columns. -/
theorem pixelAt_write_write {w : Nat} {g : Grid} (h : GridWide w g) {y x x' : Nat} (f : Nat → Px) (hx : x < w)
    (hx' : x' < w) (l z : Nat) :
    Grid.pixelAt w (Grid.write w (Grid.write w g y x (f x)) y x' (f x')) l z =
      if l = y ∧ (z = x ∨ z = x') then f z else Grid.pixelAt w g l z := by
  rw [pixelAt_write (write_wide h y x _) _ _ _ _ _ hx', pixelAt_write h _ _ _ _ _ hx]
  by_cases hz : z = x'
  · subst hz; by_cases hl : l = y <;> simp [hl]
  · by_cases hzx : z = x
    · subst hzx; simp [hz]
    · simp [hz, hzx]

/-- A plane's buffer after two columns are produced. -/
theorem pixelAt_producePixels_planes (h : s.Inv) {x x' : Nat} (hx : x < s.cfg.width) (hx' : x' < s.cfg.width) (p : Plane)
    (l z : Nat) :
    Grid.pixelAt s.cfg.width (((s.producePixel x).producePixel x').planes.get p) l z =
      if l = s.y ∧ (z = x ∨ z = x') then s.resolvedPx p z else Grid.pixelAt s.cfg.width (s.planes.get p) l z := by
  rw [producePixel_planes, producePixel_planes]
  exact pixelAt_write_write (h.planesWide p) (s.resolvedPx p) hx hx' l z

/-- The screen after two columns are produced. -/
theorem pixelAt_producePixels_screen (h : s.Inv) {x x' : Nat} (hx : x < s.cfg.width) (hx' : x' < s.cfg.width) (l z : Nat) :
    Grid.pixelAt s.cfg.width ((s.producePixel x).producePixel x').screen l z =
      if l = s.y ∧ (z = x ∨ z = x') then s.compositePx z else Grid.pixelAt s.cfg.width s.screen l z := by
  obtain ⟨hs, ha, hb⟩ := h.wide
  obtain ⟨-, ha', hb'⟩ := producePixel_wide s x hs ha hb
  rw [producePixel_screen (s.producePixel x) x' ha' hb' hx', producePixel_screen s x ha hb hx]
  exact pixelAt_write_write hs s.compositePx hx hx' l z

/-- The resolved pixel of a plane (43 R230): decoded pixels pass through where the plane has no method of its own. -/
theorem resolvedPx_eq (s : State) (p : Plane) (x : Nat) : s.resolvedPx p x =
    if s.codingMethod p = .off ∨ (p = .a ∧ s.codingMethod .b = .rgb555) then padGet Px.clear (s.line.px.get p) x
    else
      resolvePixel s.cfg.fields s.cfg.keyMask (s.reg (.tcol p)) (s.mflag.get p)
        (tcNibble s.cfg.fields (s.reg .tc) p) (padGet Px.clear (s.line.px.get p) x) := by
  simp [State.resolvedPx, State.planeUndecoded]

/-- An overlay shows the front pixel where it is visible; the back pixel alone is shown where only it is (44 R253). -/
theorem overlayPx_eq (backdrop pf pb : Px) (ff fb : BitVec 6) : overlayPx backdrop pf pb ff fb =
    if pf.a = 0 ∧ pb.a = 0 then backdrop
    else if pf.a ≠ 0 ∨ pb.a = 0 then scalePx ff pf
    else scalePx fb pb := by
  unfold overlayPx
  split
  · rfl
  · next hnot => by_cases hf : pf.a = 0 <;> simp_all

/-- The composited pixel (44 R252 to R255), by the planes' own names: plane A is shown where it is in front and visible, or
where plane B is not. -/
theorem compositePx_eq (s : State) (x : Nat) : s.compositePx x =
    if (s.reg .tc).getLsbD s.cfg.fields.mx then
      mixPx (s.resolvedPx .a x) (s.resolvedPx .b x) (s.factor .a) (s.factor .b)
    else if (s.resolvedPx .a x).a = 0 ∧ (s.resolvedPx .b x).a = 0 then padGet Px.clear s.bdstrip s.y
    else if ((s.reg .po).getLsbD s.cfg.fields.bf = false ∧ (s.resolvedPx .a x).a ≠ 0) ∨ (s.resolvedPx .b x).a = 0 then
      scalePx (s.factor .a) (s.resolvedPx .a x)
    else scalePx (s.factor .b) (s.resolvedPx .b x) := by
  unfold State.compositePx tcMix
  cases hfront : (s.reg .po).getLsbD s.cfg.fields.bf
  · simp only [poFront, hfront, otherPlane, overlayPx_eq, Bool.false_eq_true, if_false, true_and]
  · simp only [poFront, hfront, otherPlane, overlayPx, if_true, Bool.true_eq_false, false_and, false_or,
      and_comm (a := (s.resolvedPx .b x).a = 0)]

end Position

end Sys2Proof.Machine

namespace Sys2Proof.Proofs.Encoding

open Sys2Proof.Laws Sys2Proof.Machine

/-- Settles O4: one round trip for each row of the opcode table. -/
theorem decodeOfEncodeIsTheInstruction : Obligations.DecodeOfEncodeIsTheInstruction := by
  intro i
  cases i with
  | stop x d => exact RoundTrip.stop x d
  | nop x d => exact RoundTrip.nop x d
  | reloadDcp x d => exact RoundTrip.reloadDcp x d
  | reloadDcpStop x d => exact RoundTrip.reloadDcpStop x d
  | reloadVsr x d => exact RoundTrip.reloadVsr x d
  | reloadVsrStop x d => exact RoundTrip.reloadVsrStop x d
  | signal x d => exact RoundTrip.signal x d
  | loadDp x d => exact RoundTrip.loadDp x d
  | loadClut n d => exact RoundTrip.loadClut n d
  | loadIcm d => exact RoundTrip.loadIcm d
  | loadTc d => exact RoundTrip.loadTc d
  | loadPo d => exact RoundTrip.loadPo d
  | loadBank d => exact RoundTrip.loadBank d
  | loadTcolA d => exact RoundTrip.loadTcolA d
  | loadTcolB d => exact RoundTrip.loadTcolB d
  | loadMcolA d => exact RoundTrip.loadMcolA d
  | loadMcolB d => exact RoundTrip.loadMcolB d
  | loadDyuvA d => exact RoundTrip.loadDyuvA d
  | loadDyuvB d => exact RoundTrip.loadDyuvB d
  | loadCurpos d => exact RoundTrip.loadCurpos d
  | loadCurctl d => exact RoundTrip.loadCurctl d
  | loadCurpat d => exact RoundTrip.loadCurpat d
  | loadMatte j d => exact RoundTrip.loadMatte j d
  | loadBackdrop d => exact RoundTrip.loadBackdrop d
  | loadMosaicA d => exact RoundTrip.loadMosaicA d
  | loadMosaicB d => exact RoundTrip.loadMosaicB d
  | loadIcfA d => exact RoundTrip.loadIcfA d
  | loadIcfB d => exact RoundTrip.loadIcfB d
  | unknownC5 d => exact RoundTrip.unknownC5 d
  | unknownC8 d => exact RoundTrip.unknownC8 d
  | unknownCC d => exact RoundTrip.unknownCC d
  | unknownDD d => exact RoundTrip.unknownDD d
  | unknownDE d => exact RoundTrip.unknownDE d
  | unknownDF d => exact RoundTrip.unknownDF d
  | unknownE0 op d => exact RoundTrip.unknownE0 op d
  | mEnd mf micf mxp => exact RoundTrip.mEnd mf micf mxp
  | mRsvd1 mf micf mxp => exact RoundTrip.mRsvd1 mf micf mxp
  | mRsvd2 mf micf mxp => exact RoundTrip.mRsvd2 mf micf mxp
  | mRsvd3 mf micf mxp => exact RoundTrip.mRsvd3 mf micf mxp
  | mIcfA mf micf mxp => exact RoundTrip.mIcfA mf micf mxp
  | mRsvd5 mf micf mxp => exact RoundTrip.mRsvd5 mf micf mxp
  | mIcfB mf micf mxp => exact RoundTrip.mIcfB mf micf mxp
  | mRsvd7 mf micf mxp => exact RoundTrip.mRsvd7 mf micf mxp
  | mClr mf micf mxp => exact RoundTrip.mClr mf micf mxp
  | mSet mf micf mxp => exact RoundTrip.mSet mf micf mxp
  | mRsvdA mf micf mxp => exact RoundTrip.mRsvdA mf micf mxp
  | mRsvdB mf micf mxp => exact RoundTrip.mRsvdB mf micf mxp
  | mIcfAClr mf micf mxp => exact RoundTrip.mIcfAClr mf micf mxp
  | mIcfASet mf micf mxp => exact RoundTrip.mIcfASet mf micf mxp
  | mIcfBClr mf micf mxp => exact RoundTrip.mIcfBClr mf micf mxp
  | mIcfBSet mf micf mxp => exact RoundTrip.mIcfBSet mf micf mxp

/-- Settles O5: a word by its opcode byte and payload, an entry by its opcode and fields. -/
theorem encodeOfDecodeIsTheWord : Obligations.EncodeOfDecodeIsTheWord := by
  refine ⟨fun w => ?_, fun c => ?_⟩
  · rw [← dcpWord_eta w]
    exact encodesTo_decodeDcp _ _
  · rw [decodeMatte_eq, encode_decodeMatteFields, matteEntry_of_fields]

/-- Settles O33: the buffers after the two columns, read at every pixel. -/
theorem positionWritesItsTwoColumns : Obligations.PositionWritesItsTwoColumns := by
  intro s h hpixels
  obtain ⟨-, hk, -⟩ := h.inLine (.inr hpixels)
  obtain ⟨hx, hx'⟩ := Config.two_columns hk
  have hplane := pixelAt_producePixels_planes h hx hx'
  have hshown := pixelAt_producePixels_screen h hx hx'
  obtain ⟨t, ht, hfields, -⟩ := pixelStep_cases s
  generalize (s.producePixel (2 * s.line.k)).producePixel (2 * s.line.k + 1) = u at hplane hshown hfields
  have hplanes : t.planes = u.planes := by rw [hfields]
  have hscreen : t.screen = u.screen := by rw [hfields]
  rw [← hplanes] at hplane
  rw [← hscreen] at hshown
  refine ⟨t, by rw [step_pixels hpixels, ht], fun p l x => ?_, fun x hcol pa pb fa fb ha hb hfa hfb => ?_,
    fun l x hne => ?_, ?_, ?_⟩
  · rw [hplane, resolvedPx_eq]
    cases p <;> rfl
  · have hresolved (p : Plane) : Grid.pixelAt s.cfg.width (t.planes.get p) s.y x = s.resolvedPx p x := by
      rw [hplane, if_pos ⟨rfl, hcol⟩]
    rw [hshown, if_pos ⟨rfl, hcol⟩, compositePx_eq, ← hresolved .a, ← hresolved .b, ← hfa, ← hfb, ← ha, ← hb]
    rfl
  · rw [hshown, if_neg hne]
  · intro hdefault
    rw [hdefault]
    exact ⟨rfl, rfl, rfl, rfl, rfl⟩
  · rwa [hplanes, hscreen]

/-- Settles O2: one clause for each range of the opcode byte, then the default maps. -/
theorem dcpOpcodeByteSelectsTheInstruction : Obligations.DcpOpcodeByteSelectsTheInstruction := by
  intro m op d
  have hcontrol (k : Fin 8) (hk : op.toNat / 16 = k.val) :
      decodeDcp m (op ++ d) = (m.ctrl[k]).instr (op.extractLsb' 0 4) d := by
    have hlow : op.toNat < 0x80 := by omega
    have hcode := (control_code_toNat op hlow).trans hk
    rw [← dcpWord, decodeDcp_controlByte m op d hlow]
    simp only [decodeControl, hcode, Fin.getElem_fin]
  have hunknown (h : 0xC0 ≤ op.toNat) (hm : ¬(0xD0 ≤ op.toNat ∧ op.toNat ≤ 0xD7)) (hnone : m.find op = none) :
      (decodeDcp m (op ++ d)).mnemonic = "UNKNOWN" := by
    rw [← dcpWord, decodeDcp_regLoad m op d h hm, decodeRegLoad_of_find_none hnone, unknownOf_mnemonic]
  refine ⟨hcontrol, decodeDcp_clutByte m op d, decodeDcp_matteByte m op d,
    fun h hm => ⟨fun l hl => ⟨DcpMaps.code_of_find hl, ?_⟩, hunknown h hm⟩, ?_⟩
  · rw [← dcpWord, decodeDcp_regLoad m op d h hm, decodeRegLoad_of_find hl]
  · rintro rfl
    refine ⟨fun hlow => ?_, fun row hrow hop => ?_, fun hbyte => ?_⟩
    · rw [hcontrol ⟨op.toNat / 16, by omega⟩ rfl]
      exact default_control_mnemonic _ d _
    · have hrows : row ∈ RegLoad.all.map fun l => (defaultDcpMaps.code l, l.instr d) := hrow
      obtain ⟨l, -, rfl⟩ := List.mem_map.mp hrows
      rw [hop]
      exact decodeDcp_default_code l d
    · obtain ⟨h, hm, hnone⟩ := find_default_none op hbyte
      exact hunknown h hm hnone

/-- Settles O3: the opcode is the entry's upper nibble, and each field the bits at its place. -/
theorem matteOpcodeSelectsTheCommand : Obligations.MatteOpcodeSelectsTheCommand := by
  intro c
  refine ⟨?_, field_toNat c 16 1, field_toNat c 10 6, field_toNat c 1 9⟩
  have hop : (matteOp defaultMatteLayout c).toNat = c.toNat / 2 ^ 20 := by
    rw [matteOp, field_toNat]
    exact Nat.mod_eq_of_lt (by have := c.isLt; simp only [defaultMatteLayout]; omega)
  rw [decodeMatte_eq, decodeMatteFields_mnemonic, hop]

end Sys2Proof.Proofs.Encoding

/-! SUPPORT. The display-control-program interpreter (40_dcp_interpreter): the words of the default maps, a turn of the run
loop, and what each operation and load writes. -/

namespace Sys2Proof

/-! ## The words of the default maps (30_encoding R82 to R84, R97) -/

/-- A 32-bit row of the opcode table is a DCP word in the default maps. -/
theorem decodeTableWord_word (w : Nat) :
    decodeTableWord 32 w = some (decodeDcp defaultDcpMaps (BitVec.ofNat 32 w)) := by
  simp only [decodeTableWord, Nat.reduceLeDiff, if_false, if_true, decode_bytesOfWord]
  rfl

/-- A 24-bit row of the opcode table is a matte entry, which decodes by its opcode and fields. -/
theorem decodeTableWord_entry (c : Nat) {mop : BitVec 4} {mf : BitVec 1} {micf : BitVec 6} {mxp : BitVec 9}
    (hc : BitVec.ofNat 24 c = matteEntry mop mf micf mxp) :
    decodeTableWord 24 c = some (decodeMatteFields mop mf micf mxp) := by
  have hentry := Laws.RoundTrip.entry mop mf micf mxp
  rw [← hc] at hentry
  simp only [decodeTableWord, Nat.reduceLeDiff, if_true, hentry]

/-- With the default maps the word of a control operation selects that operation (30_encoding R82). -/
theorem decodeDcp_default_control (k : Control) (x : BitVec 4) (d : Payload) :
    decodeDcp defaultDcpMaps (controlWord ((defaultDcpMaps.controlCode k).setWidth 4) x d) = k.instr x d := by
  rw [decodeDcp_control]
  cases k <;> rfl

/-- With the default maps a byte that R83 gives no load selects its row of unknown opcodes (30_encoding R84). -/
theorem decodeDcp_default_unknown (op : Byte) (d : Payload)
    (h : op ∈ [(0xC5 : Byte), 0xC8, 0xCC, 0xDD, 0xDE, 0xDF] ∨ 0xE0 ≤ op.toNat) :
    decodeDcp defaultDcpMaps (dcpWord op d) = unknownOf op d := by
  obtain ⟨hlow, hmatte, hnone⟩ := find_default_none op h
  rw [decodeDcp_regLoad _ op d hlow hmatte, decodeRegLoad_of_find_none hnone]

/-- From 0xE0 on an unknown byte keeps its value in the instruction (30_encoding R84). -/
theorem decodeDcp_default_unknownE0 (op : Byte) (d : Payload) (h : 0xE0 ≤ op.toNat) :
    decodeDcp defaultDcpMaps (dcpWord op d) = .unknownE0 op d := by
  rw [decodeDcp_regLoad _ op d (by omega) (by omega), decodeRegLoad_unknownE0 op d h]

/-- Two fields side by side, as a number. -/
theorem toNat_append_eq {m n : Nat} (x : BitVec m) (y : BitVec n) : (x ++ y).toNat = x.toNat * 2 ^ n + y.toNat := by
  rw [BitVec.toNat_append, ← Nat.shiftLeft_add_eq_or_of_lt y.isLt, Nat.shiftLeft_eq]

namespace Machine

variable {s : State}

/-! ## A turn of the run loop (40 R111) -/

theorem runStep_of_no_budget (h : s.run.budget ≤ s.run.count) : s.runStep = .next (s.endRun .budget 0) := if_pos h

theorem runStep_of_aligned (hbudget : s.run.count < s.run.budget) (hpc : s.run.pc.toNat % 4 = 0) :
    s.runStep = exec (decodeDcp s.cfg.enc.dcp s.fetchWord) s.afterFetch := by
  rw [State.runStep, if_neg (by omega), if_neg (by omega)]

/-- A turn of the run loop leaves the block idle, or goes on with the same budget and one more word counted. -/
theorem step_run_progress (hrun : s.phase = .run) :
    ∃ t, step s = .next t ∧ (t.phase = .idle ∨
      (t.phase = .run ∧ s.run.count < s.run.budget ∧ t.run.budget = s.run.budget ∧ t.run.count = s.run.count + 1)) := by
  rw [step_run hrun]
  rcases runStep_cases s with ⟨_, h⟩ | ⟨_, _, h⟩ | ⟨hbudget, _, t, h, heffect⟩
  · exact ⟨_, h, .inl rfl⟩
  · exact ⟨_, h, .inl rfl⟩
  · refine ⟨t, h, heffect.phase.symm.imp_right fun hphase => ⟨hphase.trans hrun, hbudget, ?_, ?_⟩⟩ <;>
      rw [heffect.fields] <;> rfl

/-- A run with at most `n` words left is idle again within `n + 1` steps. -/
theorem run_returns (n : Nat) : ∀ {s : State}, s.phase = .run → s.run.budget - s.run.count ≤ n →
    ∃ (k : Nat) (t : State), k ≤ n + 1 ∧ Sys2Proof.core.run k s = .next t ∧ t.phase = .idle := by
  induction n with
  | zero =>
    intro s hrun hleft
    obtain ⟨t, ht, hidle | ⟨_, hbudget, _⟩⟩ := step_run_progress hrun
    · exact ⟨1, t, le_rfl, core_run_next ht 0, hidle⟩
    · omega
  | succ n ih =>
    intro s hrun hleft
    obtain ⟨t, ht, hidle | ⟨hrun', _, hbudget, hcount⟩⟩ := step_run_progress hrun
    · exact ⟨1, t, by omega, core_run_next ht 0, hidle⟩
    · obtain ⟨k, u, hk, hu, hidle⟩ := ih hrun' (by omega)
      exact ⟨k + 1, u, by omega, (core_run_next ht k).trans hu, hidle⟩

/-- After a fetch at `addr` the word in execution is the one at `addr` (40 R111, 60 R311). -/
theorem wordAddr_of_fetched {addr : Nat} (h : addr < s.cfg.regionSize)
    (hpc : s.run.pc.toNat = (addr + 4) % s.cfg.regionSize) : s.wordAddr = addr := by
  unfold State.wordAddr
  rw [hpc]
  generalize s.cfg.regionSize = size at h
  calc ((addr + 4) % size + 4 * size - 4) % size
      = ((addr + 4) % size + (4 * size - 4)) % size := by rw [Nat.add_sub_assoc (by omega)]
    _ = (addr + 4 + (4 * size - 4)) % size := Nat.mod_add_mod _ _ _
    _ = (addr + 4 * size) % size := by congr 1; omega
    _ = addr := by rw [Nat.add_mul_mod_self_right, Nat.mod_eq_of_lt h]

/-! ## LOAD_DP (40 R120, 30_encoding R99) -/

theorem dpImageType_eq (d : Payload) :
    dpImageType d = if d.toNat % 4 = 2 then .runLength else if d.toNat % 4 = 3 then .mosaic else .normal := by
  have hfield : (d.extractLsb' 0 2).toNat = d.toNat % 4 := by simp
  unfold dpImageType
  rw [hfield]
  split <;> simp_all

theorem dpRepeat_eq (d : Payload) : dpRepeat d = 2 ^ (1 + d.toNat / 4 % 4) := by
  simp only [dpRepeat, field_toNat, Nat.one_shiftLeft, Nat.reducePow]

theorem dpBpp_eq {d : Payload} (h : d.toNat / 256 % 4 ≠ 3) :
    dpBpp d = some (if d.toNat / 256 % 4 = 0 then .normal8 else if d.toNat / 256 % 4 = 1 then .double4 else .high8) := by
  have hlt : d.toNat / 256 % 4 < 4 := Nat.mod_lt _ (by decide)
  unfold dpBpp
  rw [dpField_toNat]
  generalize d.toNat / 256 % 4 = n at h hlt
  interval_cases n <;> simp_all

/-- A payload with a valid class decodes field by field. -/
theorem decodeDp_of_valid {d : Payload} (h : d.toNat / 256 % 4 ≠ 3) :
    decodeDp d = some {
      itype := if d.toNat % 4 = 2 then .runLength else if d.toNat % 4 = 3 then .mosaic else .normal
      rep := 2 ^ (1 + d.toNat / 4 % 4)
      bpp := if d.toNat / 256 % 4 = 0 then .normal8 else if d.toNat / 256 % 4 = 1 then .double4 else .high8
      raw := d &&& 0x00030F } := by
  rw [decodeDp, dpBpp_eq h, ← dpImageType_eq, ← dpRepeat_eq]

/-- LOAD_DP with a valid class writes the executing channel's display parameters. -/
theorem exec_loadDp_valid {d : Payload} {v : DisplayParams} (x : BitVec 4) (h : decodeDp d = some v) :
    exec (.loadDp x d) s = .next (s.setDp s.run.ch.plane v) := by
  show execLoadDp x d s = _
  simp only [execLoadDp, State.loadDisplayParams, h, id]

/-- LOAD_DP with the reserved class raises, with the word and the address it was fetched from (60 R311). -/
theorem exec_loadDp_reserved {d : Payload} (x : BitVec 4) (h : d.toNat / 256 % 4 = 3) :
    exec (.loadDp x d) s = .next (s.raise (.reservedBpp (.program s.run.ch
      (controlWord ((s.cfg.enc.dcp.controlCode .loadDp).setWidth 4) x d) s.wordAddr))) := by
  show execLoadDp x d s = _
  simp only [execLoadDp, State.loadDisplayParams, (decodeDp_eq_none_iff d).mpr h]

/-! ## The loads (40 R112, R121 to R140) -/

/-- What a completed register load does: the register holds the payload, and nothing else changes. -/
def Loaded (x : Reg) (d : Payload) (s t : State) : Prop :=
  t.reg x = d ∧ SameRegsBut x s t ∧ t = { s with regs := t.regs } ∧ SameBytes s t

theorem loaded_setReg (s : State) (x : Reg) (d : Payload) : Loaded x d s (s.setReg x d) :=
  ⟨reg_setReg_same s x d, fun _ hz => reg_setReg_other s d hz, rfl, fun _ => rfl⟩

/-- An instruction that is a register load completes on a channel with the right to it. -/
theorem exec_loadReg_permitted {i : Instr} {r : Rights} {l : RegLoad} {x : Reg} {d : Payload}
    (hexec : exec i s = .next (s.loadReg r l x d)) (h : permitted s.cfg r s.run.ch = true) :
    ∃ t, exec i s = .next t ∧ Loaded x d s t :=
  ⟨_, hexec.trans (congrArg _ (guardedLoad_permitted l _ h)), loaded_setReg s x d⟩

/-- An instruction that is a register load only logs on a channel without the right to it (40 R142). -/
theorem exec_loadReg_refused {i : Instr} {r : Rights} {l : RegLoad} {x : Reg} {d : Payload}
    (hexec : exec i s = .next (s.loadReg r l x d)) (h : permitted s.cfg r s.run.ch = false) :
    exec i s = .next (s.logDev (.channelNotPermitted s.run.ch (s.cfg.enc.dcp.code l))) :=
  hexec.trans (congrArg _ (guardedLoad_refused l _ h))

/-- The instruction `i` of opcode byte `op` is the register load `l`, which stores its payload in `x` under the rights `r`. -/
structure IsRegLoad (r : Rights) (d : Payload) (l : RegLoad) (op : Byte) (i : Instr) (x : Reg) : Prop where
  code_eq : defaultDcpMaps.code l = op
  instr_eq : l.instr d = i
  exec_eq : ∀ s, exec i s = .next (s.loadReg r l x d)

theorem IsRegLoad.decoded {r : Rights} {d : Payload} {l : RegLoad} {op : Byte} {i : Instr} {x : Reg}
    (h : IsRegLoad r d l op i x) : decodeDcp defaultDcpMaps (op ++ d) = i := by
  rw [← h.code_eq, ← h.instr_eq]
  exact decodeDcp_default_code l d

/-! ## The tables (40 R121, R134, R135) -/

/-- The active bank as a number (30_encoding R90). -/
theorem clutBankOf_toNat (l : FieldLayout) (d : Payload) : (clutBankOf l d).toNat = d.toNat / 2 ^ l.bank % 4 :=
  field_toNat d l.bank 2

theorem clutAt_setClut (s : State) (i e : Byte) (v : Payload) :
    (s.setClut i v).clutAt e = if e.toNat = i.toNat then v else s.clutAt e := by
  by_cases h : e = i
  · rw [h, clutAt_setClut_same, if_pos rfl]
  · rw [clutAt_setClut_other s v h, if_neg fun heq => h (BitVec.eq_of_toNat_eq heq)]

theorem matteAt_setMatte (s : State) (i j : Fin 8) (v : Payload) :
    (s.setMatte i v).matteAt j = if j.val = i.val then v else s.matteAt j := by
  by_cases h : j = i
  · rw [h, matteAt_setMatte_same, if_pos rfl]
  · rw [matteAt_setMatte_other s v h, if_neg fun heq => h (Fin.ext heq)]

theorem curpatAt_setCurpat (s : State) (i r : Fin 16) (v : BitVec 16) :
    (s.setCurpat i v).curpatAt r = if r.val = i.val then v else s.curpatAt r := by
  by_cases h : r = i
  · rw [h, curpatAt_setCurpat_same, if_pos rfl]
  · rw [curpatAt_setCurpat_other s v h, if_neg fun heq => h (Fin.ext heq)]

/-- LOAD_CLUT writes entry `n` of the active bank, or nothing where the channel may not write that bank. -/
theorem exec_loadClut (n : BitVec 6) (d : Payload) : exec (.loadClut n d) s =
    .next (if s.run.ch = .a ∨ 2 ≤ (clutBankOf s.cfg.fields (s.reg .clutBank)).toNat then
      s.setClut (clutBankOf s.cfg.fields (s.reg .clutBank) ++ n) d else s) := rfl

/-- LOAD_CURPAT is a load under channel A's rights (40 R134). -/
theorem exec_loadCurpat (d : Payload) : exec (.loadCurpat d) s =
    .next (s.guardedLoad .aOnly .curpat
      fun t => t.setCurpat (curpatRow t.cfg.cursor d).toFin (curpatBits t.cfg.cursor d)) := rfl

end Machine

end Sys2Proof

namespace Sys2Proof.Proofs.DcpInterpreter

open Sys2Proof.Machine

/-- Settles O47: each turn that does not end the run uses up a word of its budget. -/
theorem runReturnsWithinItsBudget : Obligations.RunReturnsWithinItsBudget :=
  fun _ hrun => run_returns _ hrun le_rfl

/-- Settles O1: each word or entry is one that the rule for its class builds. -/
theorem specExampleWordsDecode : Obligations.SpecExampleWordsDecode := by
  refine ⟨?_, ?_, ?_, ?_, ?_, ?_, ?_, decodeTableWord_entry (mop := 4) (mf := 0) (micf := 32) (mxp := 2) _ rfl,
    decodeTableWord_entry (mop := 15) (mf := 1) (micf := 63) (mxp := 100) _ rfl⟩ <;>
    refine (decodeTableWord_word _).trans (congrArg some ?_)
  · exact decodeDcp_default_control .stop 0 0
  · exact decodeDcp_default_control .reloadVsr 0 0x012340
  · exact decodeDcp_clut defaultDcpMaps 5 0x12AB34
  · exact decodeDcp_default_code .tc 0x800808
  · exact decodeDcp_default_code .curpat 0x03F00F
  · exact decodeDcp_matte defaultDcpMaps 0 0x408004
  · exact decodeDcp_default_unknownE0 0xE0 0x123456 (by decide)

/-- Settles O6: the four bytes are the fetched word, and the budget and alignment checks pass. -/
theorem stepRunsTheFetchedInstruction : Obligations.StepRunsTheFetchedInstruction := by
  intro s i hrun hbudget hpc hdecode
  have hi : decodeDcp s.cfg.enc.dcp s.fetchWord = i := Except.ok.inj hdecode
  rw [step_run hrun, runStep_of_aligned hbudget hpc, hi]
  rfl

/-- Settles O10: the start of a run, its return without budget, and the two after one another. -/
theorem runStartsAndReturnsWithoutBudget : Obligations.RunStartsAndReturnsWithoutBudget := by
  have hreturn (s : State) (hrun : s.phase = .run) (hbudget : s.run.budget ≤ s.run.count) :
      step s = .next (s.endRun .budget 0) := by
    rw [step_run hrun, runStep_of_no_budget hbudget]
  refine ⟨fun s ch addr budget rest hidle hfault hcall => step_op hidle hfault hcall, hreturn,
    fun s ch addr rest hidle hfault hcall => ⟨_, _, step_op hidle hfault hcall, hreturn _ rfl le_rfl, ?_⟩⟩
  simp only [State.endRun, State.serveOp, State.startRun, hidle]

/-- Settles O11: each of the five operations is `endRun` with its own end. -/
theorem terminatorsReturnTheRun : Obligations.TerminatorsReturnTheRun := by
  intro s x d row hrow
  have hterminator : decodeDcp defaultDcpMaps (controlWord row.1 x d) = row.2.1 ∧
      exec row.2.1 s = .next (s.endRun row.2.2 d) := by
    fin_cases hrow
    · exact ⟨decodeDcp_default_control .stop x d, rfl⟩
    · exact ⟨decodeDcp_default_control .reloadDcp x d, rfl⟩
    · exact ⟨decodeDcp_default_control .reloadDcpStop x d, rfl⟩
    · exact ⟨decodeDcp_default_control .reloadVsr x d, rfl⟩
    · exact ⟨decodeDcp_default_control .reloadVsrStop x d, rfl⟩
  obtain ⟨hdecode, hexec⟩ := hterminator
  exact ⟨hdecode, _, hexec, rfl, fun _ => rfl⟩

/-- Settles O12: one case for each setting of `P_SIGNAL_STOPS`. -/
theorem signalRequestsTheInterrupt : Obligations.SignalRequestsTheInterrupt := by
  intro s x d
  refine ⟨decodeDcp_default_control .signal x d, _, _, rfl, rfl, fun hstops => if_pos hstops, fun hstops => ?_, ?_⟩
  · exact if_neg (by simp [hstops])
  · split
    exacts [fun _ => rfl, fun _ => rfl]

/-- Settles O13: the payload decodes field by field, and the other plane's parameters stay. -/
theorem loadDpWritesDisplayParameters : Obligations.LoadDpWritesDisplayParameters := by
  intro s x d hclass
  refine ⟨decodeDcp_default_control .loadDp x d, _, exec_loadDp_valid x (decodeDp_of_valid hclass), ?_⟩
  simp only [setDp_dp, AB.get_set_same, AB.get_set_other _ _ (otherPlane_ne s.run.ch.plane), true_and]
  exact ⟨rfl, fun _ => rfl⟩

/-- Settles O14: the raised record, with the address that was fetched and the code in front of the ignored nibble. -/
theorem loadDpReservedClassFaults : Obligations.LoadDpReservedClassFaults := by
  intro s x d addr hclass hfault haddr hpc
  have hcode : ∀ k : BitVec 3, k.setWidth 4 = 0#1 ++ k := by decide
  have hexec := exec_loadDp_reserved (s := s) x hclass
  rw [wordAddr_of_fetched haddr hpc] at hexec
  refine ⟨_, _, hexec, raise_faulted _ hfault, ?_, fun hmaps => ?_⟩
  · rw [hcode]; rfl
  · rw [hmaps]; rfl

/-- Settles O15: the bank and the offset side by side are the entry's number, and channel B may write banks 2 and 3. -/
theorem loadClutWritesTheActiveBank : Obligations.LoadClutWritesTheActiveBank := by
  intro s n d bank hbank
  rw [← clutBankOf_toNat] at hbank
  refine ⟨decodeDcp_clut defaultDcpMaps n d, fun hmay => ?_, fun hch hlow => ?_⟩
  · rw [exec_loadClut, hbank, if_pos hmay]
    refine ⟨_, rfl, fun e => ?_, rfl, fun _ => rfl⟩
    simp only [clutAt_setClut, toNat_append_eq, hbank, Nat.reducePow]
  · rw [exec_loadClut, hbank, if_neg (by simp [hch]; omega)]

/-- Settles O17: each row is a load under channel A's rights. -/
theorem channelARegisterLoads : Obligations.ChannelARegisterLoads := by
  intro s d row hrow
  have hload : IsRegLoad .aOnly d row.1 row.2.1 row.2.2.1 row.2.2.2 := by
    fin_cases hrow <;> exact ⟨rfl, rfl, fun _ => rfl⟩
  refine ⟨hload.decoded, hload.code_eq, fun hch => ?_, fun hch => ?_⟩
  · exact exec_loadReg_permitted (hload.exec_eq s) (by rw [hch]; rfl)
  · rw [exec_loadReg_refused (hload.exec_eq s) (by rw [hch]; rfl), hch]
    rfl

/-- Settles O18: each row is a load under channel B's rights, which channel A has with `P_CH_A_WRITES_B`. -/
theorem channelBRegisterLoads : Obligations.ChannelBRegisterLoads := by
  intro s d row hrow
  have hload : IsRegLoad .bOnly d row.1 row.2.1 row.2.2.1 row.2.2.2 := by
    fin_cases hrow <;> exact ⟨rfl, rfl, fun _ => rfl⟩
  refine ⟨hload.decoded, hload.code_eq, fun hmay => ?_, fun hch hnot => ?_⟩
  · exact exec_loadReg_permitted (hload.exec_eq s) ((permitted_iff _ _ _).mpr (.inr (.inr ⟨rfl, hmay⟩)))
  · rw [exec_loadReg_refused (hload.exec_eq s) (by rw [hch]; exact hnot), hch]
    rfl

/-- Settles O19: both channels have the right to the one bank register. -/
theorem loadBankFromEitherChannel : Obligations.LoadBankFromEitherChannel := fun _ d =>
  ⟨decodeDcp_default_code .bank d, exec_loadReg_permitted rfl ((permitted_iff _ _ _).mpr (.inl rfl))⟩

/-- Settles O20: the row and the pattern are fields of the payload, and the rights of `CURPAT` split on the channel. -/
theorem loadCurpatWritesOneRow : Obligations.LoadCurpatWritesOneRow := by
  intro s d
  refine ⟨decodeDcp_default_code .curpat d, rfl, fun hch => ?_, fun hch => ?_, fun hlayout => ?_⟩
  · rw [exec_loadCurpat, guardedLoad_permitted _ _ (by rw [hch]; rfl)]
    refine ⟨_, rfl, fun r => ?_, rfl, fun _ => rfl⟩
    have hrow : (curpatRow s.cfg.cursor d).toFin.val = d.toNat / 2 ^ s.cfg.cursor.row % 16 := nibble_toNat d _
    have hbits : curpatBits s.cfg.cursor d = BitVec.ofNat 16 (d.toNat / 2 ^ s.cfg.cursor.bits) := by
      rw [curpatBits, BitVec.extractLsb', Nat.shiftRight_eq_div_pow]
    rw [curpatAt_setCurpat, hrow, hbits]
  · rw [exec_loadCurpat, guardedLoad_refused _ _ (by rw [hch]; rfl), hch]
    rfl
  · rw [hlayout]
    exact ⟨rfl, rfl⟩

/-- Settles O21: the load asks for no right, and writes the entry of its offset. -/
theorem loadMatteWritesOneEntry : Obligations.LoadMatteWritesOneEntry := fun s i d =>
  ⟨decodeDcp_matte defaultDcpMaps i d, s.setMatte i.toFin d, rfl, fun j => matteAt_setMatte s i.toFin j d, rfl,
    fun _ => rfl⟩

/-- Settles O22: NOP, the six unknown bytes with a row of their own, and the row of the others. -/
theorem nopAndUnknownOpcodesHaveNoEffect : Obligations.NopAndUnknownOpcodesHaveNoEffect := by
  intro s x op d
  refine ⟨decodeDcp_default_control .nop x d, rfl, fun row hrow => ?_, decodeDcp_default_unknownE0 op d, rfl⟩
  have hbyte : row.1 ∈ [(0xC5 : Byte), 0xC8, 0xCC, 0xDD, 0xDE, 0xDF] := List.mem_map_of_mem (f := Prod.fst) hrow
  rw [decodeDcp_default_unknown row.1 d (.inl hbyte)]
  fin_cases hrow <;> exact ⟨rfl, rfl⟩

end Sys2Proof.Proofs.DcpInterpreter

/-! SUPPORT. The pixel decoders (41_pixel_decoders): what the dispatch answers for each kind of plane, and the pixels of
an indexed-colour, a DYUV, an RGB555 and a run-length line. -/

namespace Sys2Proof

/-- The value of a field of a word of any width. -/
theorem toNat_extractLsb'_eq {w : Nat} (x : BitVec w) (lo n : Nat) :
    (x.extractLsb' lo n).toNat = x.toNat / 2 ^ lo % 2 ^ n := by
  rw [BitVec.extractLsb'_toNat, Nat.shiftRight_eq_div_pow]

/-- The value of a field of a byte, kept in a byte. -/
theorem toNat_setWidth_field (b : Byte) (lo : Nat) {n : Nat} (hn : n ≤ 8) :
    ((b.extractLsb' lo n).setWidth 8).toNat = b.toNat / 2 ^ lo % 2 ^ n := by
  rw [BitVec.toNat_setWidth_of_le hn, toNat_extractLsb'_eq]

/-- The top bit of a word says whether its value is in the upper half. -/
theorem getLsbD_top_eq {w : Nat} (x : BitVec (w + 1)) : x.getLsbD w = decide (2 ^ w ≤ x.toNat) := by
  have htop := BitVec.msb_eq_decide x
  rwa [BitVec.msb_eq_getLsbD_last] at htop

namespace Machine

/-! ## The dispatch (41 R162 to R166) -/

section Dispatch

variable {s : State} {p : Plane} {ptrA ptrB : Nat}

/-- Plane `p` goes on to its image type: it is not OFF, and not plane A beside an RGB555 plane B (41 R163, R164). -/
structure State.Decodes (s : State) (p : Plane) : Prop where
  not_beside_rgb555 : ¬(p = .a ∧ s.codingMethod .b = .rgb555)
  ne_off : s.codingMethod p ≠ .off

theorem decodePlane_off (h : s.codingMethod p = .off) : s.decodePlane p ptrA ptrB = .ok (s.clearDecode p) := by
  simp [State.decodePlane, h]

theorem decodePlane_beside_rgb555 (h : p = .a ∧ s.codingMethod .b = .rgb555) (hne : s.codingMethod p ≠ .off) :
    s.decodePlane p ptrA ptrB = .error (.rgb555WithPlaneA s.y (s.codingMethod p)) :=
  (if_pos h).trans (if_pos hne)

/-- A plane that is not OFF and answers a line passed the first checks. -/
theorem State.Decodes.of_ok {r : Decoded} (h : s.decodePlane p ptrA ptrB = .ok r) (hne : s.codingMethod p ≠ .off) :
    s.Decodes p := by
  refine ⟨fun hbeside => ?_, hne⟩
  rw [decodePlane_beside_rgb555 hbeside hne] at h
  cases h

namespace State.Decodes

theorem mosaic (hd : s.Decodes p) (ht : (s.dp.get p).itype = .mosaic) :
    s.decodePlane p ptrA ptrB = .error (.mosaicImageType p s.y) := by
  simp only [State.decodePlane, if_neg hd.not_beside_rgb555, if_neg hd.ne_off, if_pos ht]

theorem runLength_nonClut (hd : s.Decodes p) (ht : (s.dp.get p).itype = .runLength)
    (hm : s.codingMethod p ∈ [CodingMethod.dyuv, .rgb555]) :
    s.decodePlane p ptrA ptrB = .error (.runLengthNonClut p s.y) := by
  simp only [List.mem_cons, List.not_mem_nil, or_false] at hm
  rcases hm with hm | hm <;> simp [State.decodePlane, hd.not_beside_rgb555, hm, ht]

theorem runLength_clut (hd : s.Decodes p) (ht : (s.dp.get p).itype = .runLength)
    (hm : s.codingMethod p ∉ [CodingMethod.dyuv, .rgb555]) :
    s.decodePlane p ptrA ptrB = s.decodeRunLength p (s.codingMethod p) ((AB.mk ptrA ptrB).get p) := by
  cases hmethod : s.codingMethod p with
  | off => exact absurd hmethod hd.ne_off
  | dyuv | rgb555 => simp [hmethod] at hm
  | _ => simp [State.decodePlane, hd.not_beside_rgb555, hmethod, ht]; rfl

theorem normal_clutBytes (hd : s.Decodes p) (ht : (s.dp.get p).itype = .normal)
    (hm : s.codingMethod p ∈ [CodingMethod.clut8, .clut7, .clut77]) :
    s.decodePlane p ptrA ptrB = .ok (s.decodedFrom p
      (s.clutBytes p (s.codingMethod p) ((AB.mk ptrA ptrB).get p)) (s.decodeWidth p) (s.carry.get p)) := by
  simp only [List.mem_cons, List.not_mem_nil, or_false] at hm
  rcases hm with hm | hm | hm <;> simp [State.decodePlane, hd.not_beside_rgb555, hm, ht] <;> rfl

theorem normal_clut4 (hd : s.Decodes p) (ht : (s.dp.get p).itype = .normal) (hm : s.codingMethod p = .clut4) :
    s.decodePlane p ptrA ptrB = .ok (s.decodedFrom p
      (s.clut4 p ((AB.mk ptrA ptrB).get p)) (s.decodeWidth p / 2) (s.carry.get p)) := by
  simp [State.decodePlane, hd.not_beside_rgb555, hm, ht]
  rfl

theorem normal_dyuv (hd : s.Decodes p) (ht : (s.dp.get p).itype = .normal) (hm : s.codingMethod p = .dyuv) :
    s.decodePlane p ptrA ptrB = .ok (s.decodedFrom p (s.dyuvLine p ((AB.mk ptrA ptrB).get p)).1 (s.decodeWidth p)
      (s.dyuvLine p ((AB.mk ptrA ptrB).get p)).2) := by
  simp [State.decodePlane, hd.not_beside_rgb555, hm, ht]
  rfl

theorem normal_rgb555 (hd : s.Decodes p) (ht : (s.dp.get p).itype = .normal) (hm : s.codingMethod p = .rgb555) :
    s.decodePlane p ptrA ptrB =
      .ok ⟨spread (s.dup .b) (s.rgb555 ptrA ptrB), s.decodeWidth .b, s.decodeWidth .b, s.carry.get p⟩ := by
  simp [State.decodePlane, hd.not_beside_rgb555, hm, ht]

end State.Decodes

/-- A Normal plane that passes the first checks answers a line, whatever its method. -/
theorem State.Decodes.normal_ok (hd : s.Decodes p) (ht : (s.dp.get p).itype = .normal) :
    ∃ r, s.decodePlane p ptrA ptrB = .ok r := by
  cases hm : s.codingMethod p with
  | off => exact absurd hm hd.ne_off
  | clut8 | clut7 | clut77 => exact ⟨_, hd.normal_clutBytes ht (by simp [hm])⟩
  | clut4 => exact ⟨_, hd.normal_clut4 ht hm⟩
  | dyuv => exact ⟨_, hd.normal_dyuv ht hm⟩
  | rgb555 => exact ⟨_, hd.normal_rgb555 ht hm⟩

/-- An RGB555 plane that answers a line is Normal, and takes a byte of each stream for a pixel (41 R164, R175). -/
theorem decodePlane_rgb555_ok {r : Decoded} (h : s.decodePlane p ptrA ptrB = .ok r)
    (hm : s.codingMethod p = .rgb555) :
    r = ⟨spread (s.dup .b) (s.rgb555 ptrA ptrB), s.decodeWidth .b, s.decodeWidth .b, s.carry.get p⟩ := by
  have hd := State.Decodes.of_ok h (by simp [hm])
  cases ht : (s.dp.get p).itype with
  | normal => exact (Except.ok.inj ((hd.normal_rgb555 ht hm).symm.trans h)).symm
  | runLength => rw [hd.runLength_nonClut ht (by simp [hm])] at h; cases h
  | mosaic => rw [hd.mosaic ht] at h; cases h

/-- The items of plane `p`'s run-length line: RL3 for the class Double4, else RL7 (41 R162). -/
def State.runLengthItems (s : State) (p : Plane) (m : CodingMethod) (ptr : Nat) : Except Fault (Line × Nat) :=
  if (s.dp.get p).bpp = .double4 then s.rl3 p m ptr else s.rl7 p m ptr

theorem decodeRunLength_of_error {m : CodingMethod} {ptr : Nat} {f : Fault} (h : s.runLengthItems p m ptr = .error f) :
    s.decodeRunLength p m ptr = .error f := by
  unfold State.runLengthItems at h
  simp only [State.decodeRunLength, h]

theorem decodeRunLength_of_ok {m : CodingMethod} {ptr : Nat} {q : Line × Nat} (h : s.runLengthItems p m ptr = .ok q) :
    s.decodeRunLength p m ptr = .ok (s.decodedFrom p q.1 q.2 (s.carry.get p)) := by
  unfold State.runLengthItems at h
  simp only [State.decodeRunLength, h]

/-- A run-length plane that answers a line shows its items. -/
theorem decodePlane_runLength_ok {r : Decoded} (h : s.decodePlane p ptrA ptrB = .ok r)
    (hne : s.codingMethod p ≠ .off) (ht : (s.dp.get p).itype = .runLength) :
    ∃ q, s.runLengthItems p (s.codingMethod p) ((AB.mk ptrA ptrB).get p) = .ok q ∧
      r = s.decodedFrom p q.1 q.2 (s.carry.get p) := by
  have hd := State.Decodes.of_ok h hne
  by_cases hm : s.codingMethod p ∈ [CodingMethod.dyuv, .rgb555]
  · rw [hd.runLength_nonClut ht hm] at h
    cases h
  · rw [hd.runLength_clut ht hm] at h
    cases hitems : s.runLengthItems p (s.codingMethod p) ((AB.mk ptrA ptrB).get p) with
    | error f => rw [decodeRunLength_of_error hitems] at h; cases h
    | ok q => exact ⟨q, rfl, Except.ok.inj (h.symm.trans (decodeRunLength_of_ok hitems))⟩

end Dispatch

/-! ## Width, duplication and consumed bytes (41 R160, R161, R178) -/

section Width

variable (s : State) (p : Plane) (px : Line) (n : Nat) (c : Carry)

theorem dup_eq_true_iff : s.dup p = true ↔ (s.dp.get p).bpp = .normal8 := by simp [State.dup]

theorem decodeWidth_eq :
    s.decodeWidth p = if (s.dp.get p).bpp = .normal8 then s.cfg.width / 2 else s.cfg.width := by
  simp only [State.decodeWidth, dup_eq_true_iff]

variable {s} in
/-- The decoded pixel that position `x` of the line shows is one of those decoded. -/
theorem shown_lt_decodeWidth {x : Nat} (hx : x < s.cfg.width) :
    (if (s.dp.get p).bpp = .normal8 then x / 2 else x) < s.decodeWidth p := by
  have hwidth := Config.width_eq s.cfg
  rw [decodeWidth_eq]
  split <;> omega

/-- The bytes a decoded line consumed from the stream of plane `q`. -/
def Decoded.used (r : Decoded) (q : Plane) : Nat := (AB.mk r.usedA r.usedB).get q

@[simp] theorem decodedFrom_used_same : (s.decodedFrom p px n c).used p = n := by cases p <;> rfl

@[simp] theorem decodedFrom_used_other : (s.decodedFrom p px n c).used (otherPlane p) = 0 := by cases p <;> rfl

@[simp] theorem decodedFrom_carry : (s.decodedFrom p px n c).carry = c := by cases p <;> rfl

theorem decodedFrom_px : (s.decodedFrom p px n c).px = spread (s.dup p) px := by cases p <;> rfl

theorem decodedFrom_px_getElem? (x : Nat) :
    (s.decodedFrom p px n c).px[x]? = px[if (s.dp.get p).bpp = .normal8 then x / 2 else x]? := by
  simp only [decodedFrom_px, spread_getElem?, dup_eq_true_iff]

end Width

/-! ## Indexed colour (41 R167 to R170) -/

section Indexed

/-- The value of a code masked by the method (41 R167). -/
def codeValue (m : CodingMethod) (c : Nat) : Nat :=
  match m with
  | .clut7 | .clut77 => c % 128
  | .clut4 => c % 16
  | .off | .rgb555 | .clut8 | .dyuv => c

/-- A code below 128 loses bits to CLUT4's mask only. -/
theorem codeValue_of_lt (m : CodingMethod) {c : Nat} (h : c < 128) :
    codeValue m c = if m = .clut4 then c % 16 else c := by
  cases m <;> simp [codeValue, Nat.mod_eq_of_lt h]

/-- A nibble is a code that CLUT4's mask keeps. -/
theorem codeValue_nibble {n : Nat} (h : n < 16) : codeValue .clut4 (BitVec.ofNat 8 n).toNat = n := by
  simp only [codeValue, BitVec.toNat_ofNat]
  omega

theorem and_0x7F_eq : ∀ c : Byte, c &&& 0x7F = BitVec.ofNat 8 (c.toNat % 128) := by decide

theorem and_0x0F_eq : ∀ c : Byte, c &&& 0x0F = BitVec.ofNat 8 (c.toNat % 16) := by decide

/-- The masked code and the upper half of the table for plane B and for CLUT7+7 with `CS` (41 R167). -/
theorem clutIndex_eq (cs : Bool) (p : Plane) (m : CodingMethod) (c : Byte) :
    clutIndex cs p m c =
      BitVec.ofNat 8 (codeValue m c.toNat + if p = .b ∨ (m = .clut77 ∧ cs = true) then 128 else 0) := by
  rw [BitVec.ofNat_add]
  unfold clutIndex
  cases m <;> simp only [codeValue, and_0x7F_eq, and_0x0F_eq, BitVec.ofNat_toNat, BitVec.setWidth_eq] <;>
    split <;> simp

variable (s : State) (p : Plane) (ptr : Nat)

/-- A code whose index is `n` shows the opaque CLUT entry `n` (41 R167, R168). -/
theorem pix_eq {m : CodingMethod} {c : Byte} {n : Nat} (h : codeValue m c.toNat +
    (if p = .b ∨ (m = .clut77 ∧ (s.reg .icm).getLsbD s.cfg.fields.cs = true) then 128 else 0) = n) :
    s.pix p m c = opaquePx s.cfg.fields (s.clutAt (BitVec.ofNat 8 n)) := by
  rw [State.pix, clutIndex_eq, ← h]
  rfl

/-- The pixel of a code of at most seven bits, as a number: only CLUT4 masks it. -/
def State.codePx (s : State) (p : Plane) (m : CodingMethod) (c : Nat) : Px :=
  opaquePx s.cfg.fields (s.clutAt (BitVec.ofNat 8 ((if m = .clut4 then c % 16 else c) +
    if p = .b ∨ (m = .clut77 ∧ (s.reg .icm).getLsbD s.cfg.fields.cs = true) then 128 else 0)))

theorem pix_field (m : CodingMethod) (b : Byte) (lo : Nat) {n : Nat} (hn : n ≤ 7) :
    s.pix p m ((b.extractLsb' lo n).setWidth 8) = s.codePx p m (b.toNat / 2 ^ lo % 2 ^ n) := by
  have hlt : b.toNat / 2 ^ lo % 2 ^ n < 128 :=
    (Nat.mod_lt _ (Nat.two_pow_pos n)).trans_le (Nat.pow_le_pow_right (by decide) hn)
  exact pix_eq s p (by rw [toNat_setWidth_field b lo (by omega), codeValue_of_lt m hlt])

/-- The entries of a list in pairs, in order. -/
theorem flatMap_pair_getElem? {α β : Type} (f g : α → β) (l : List α) : ∀ k : Nat,
    (l.flatMap fun a => [f a, g a])[k]? = l[k / 2]?.map fun a => if k % 2 = 0 then f a else g a := by
  induction l with
  | nil => simp
  | cons a l ih =>
    intro k
    match k with
    | 0 => simp
    | 1 => simp
    | k + 2 => simpa using ih k

theorem clutBytes_getElem? (m : CodingMethod) {k : Nat} (hk : k < s.decodeWidth p) :
    (s.clutBytes p m ptr)[k]? = some (s.pix p m (s.byteAt (ptr + k))) := by
  simp [State.clutBytes, hk]

/-- Pixel `k` of a CLUT4 line is of the high nibble of byte `k / 2` for an even `k`, else of the low one. -/
theorem clut4_getElem? {k : Nat} (hk : k < s.decodeWidth p) :
    (s.clut4 p ptr)[k]? = some (s.pix p .clut4 (BitVec.ofNat 8 (if k % 2 = 0 then
      (s.byteAt (ptr + k / 2)).toNat / 16 else (s.byteAt (ptr + k / 2)).toNat % 16))) := by
  have heven := decodeWidth_even s p
  have hpair : (List.range (s.decodeWidth p / 2))[k / 2]? = some (k / 2) := List.getElem?_range (by omega)
  have hhigh (b : Byte) : (b.extractLsb' 4 4).setWidth 8 = BitVec.ofNat 8 (b.toNat / 16) := by
    have hb := b.isLt
    apply BitVec.eq_of_toNat_eq
    rw [toNat_setWidth_field b 4 (by decide), BitVec.toNat_ofNat]
    omega
  have hlow (b : Byte) : (b.extractLsb' 0 4).setWidth 8 = BitVec.ofNat 8 (b.toNat % 16) := by
    apply BitVec.eq_of_toNat_eq
    rw [toNat_setWidth_field b 0 (by decide), BitVec.toNat_ofNat]
    omega
  simp only [State.clut4, State.clut4Pair, flatMap_pair_getElem?, hpair, Option.map_some, hhigh, hlow]
  split <;> rfl

end Indexed

/-! ## DYUV (41 R171 to R174) -/

section Dyuv

theorem yuv2rgb_opaque (m : YuvMap) (y u v : Byte) : (yuv2rgb m y u v).a = 255 := by cases m <;> rfl

/-- The `YUV2RGB` of R173 on values below 256. -/
theorem standardYuv2rgb_ofNat {y u v : Nat} (hy : y < 256) (hu : u < 256) (hv : v < 256) :
    standardYuv2rgb (BitVec.ofNat 8 y) (BitVec.ofNat 8 u) (BitVec.ofNat 8 v) = ⟨255,
      clamp8 ((y : Int) + Int.tdiv (351 * ((v : Int) - 128)) 256),
      clamp8 ((y : Int) - Int.tdiv (86 * ((u : Int) - 128)) 256 - Int.tdiv (179 * ((v : Int) - 128)) 256),
      clamp8 ((y : Int) + Int.tdiv (444 * ((u : Int) - 128)) 256)⟩ := by
  simp only [standardYuv2rgb, tdiv, BitVec.toNat_ofNat, Nat.reducePow, Nat.mod_eq_of_lt hy, Nat.mod_eq_of_lt hu,
    Nat.mod_eq_of_lt hv]

theorem chromaAverage_ofNat {x : Byte} {n : Nat} (hn : n < 256) :
    chromaAverage x (BitVec.ofNat 8 n) = BitVec.ofNat 8 ((x.toNat + n) / 2) := by
  rw [chromaAverage, BitVec.toNat_ofNat, Nat.mod_eq_of_lt hn]

theorem dequantOf_eq (t : Vector Byte 16) {q : BitVec 4} {i : Nat} (h : q.toNat = i) : dequantOf t q = t[i]! := by
  subst h
  exact (getElem!_pos t q.toNat q.isLt).symm

/-- A byte plus a dequantised delta, as the byte of the sum modulo 256. -/
theorem add_dequantOf (t : Vector Byte 16) (x : Byte) {q : BitVec 4} {i n : Nat} (h : q.toNat = i)
    (hn : n = (x.toNat + (t[i]!).toNat) % 256) : x + dequantOf t q = BitVec.ofNat 8 n := by
  rw [dequantOf_eq t h]
  apply BitVec.eq_of_toNat_eq
  rw [BitVec.toNat_add, BitVec.toNat_ofNat, hn, Nat.mod_mod]

/-- The two pixels and the carry of a word, in the new values of the carry (41 R174). -/
theorem dyuvWord_eq (t : Vector Byte 16) (m : YuvMap) (w : BitVec 16) (c : Carry) {u2 v2 y1 y2 : Byte}
    (hu : c.u + dequantOf t (w.extractLsb' 12 4) = u2) (hy1 : c.y + dequantOf t (w.extractLsb' 8 4) = y1)
    (hv : c.v + dequantOf t (w.extractLsb' 4 4) = v2) (hy2 : y1 + dequantOf t (w.extractLsb' 0 4) = y2) :
    dyuvWord t m w c =
      (yuv2rgb m y1 (chromaAverage c.u u2) (chromaAverage c.v v2), yuv2rgb m y2 u2 v2, ⟨y2, u2, v2⟩) := by
  subst hu hv hy1 hy2
  rfl

variable (s : State)

theorem dyuvWords_opaque (n : Nat) : ∀ (ptr : Nat) (c : Carry), ∀ px ∈ (s.dyuvWords n ptr c).1, px.a = 255 := by
  induction n with
  | zero => intro ptr c px hpx; cases hpx
  | succ n ih =>
    intro ptr c px hpx
    simp only [State.dyuvWords, List.mem_cons] at hpx
    rcases hpx with rfl | rfl | hpx
    · exact yuv2rgb_opaque ..
    · exact yuv2rgb_opaque ..
    · exact ih _ _ px hpx

/-- Word `j` of a line, from the carry of the words before it. -/
def State.dyuvWordAt (s : State) (ptr : Nat) (c : Carry) (j : Nat) : Px × Px × Carry :=
  dyuvWord s.cfg.dequant s.cfg.yuv (s.read16 (ptr + 2 * j)) (s.dyuvWords j ptr c).2

/-- The words of a line after its first are a line of their own, from the carry that the first leaves. -/
theorem dyuvWordAt_succ (ptr : Nat) (c : Carry) (j : Nat) :
    s.dyuvWordAt ptr c (j + 1) = s.dyuvWordAt (ptr + 2) (s.dyuvWordAt ptr c 0).2.2 j := by
  unfold State.dyuvWordAt
  rw [show ptr + 2 * (j + 1) = ptr + 2 + 2 * j by omega]
  rfl

theorem dyuvWords_succ_carry (n : Nat) : ∀ (ptr : Nat) (c : Carry),
    (s.dyuvWords (n + 1) ptr c).2 = (s.dyuvWordAt ptr c n).2.2 := by
  induction n with
  | zero => intro ptr c; rfl
  | succ n ih => intro ptr c; rw [dyuvWordAt_succ, ← ih]; rfl

/-- Word `j` gives the pixels `2 * j` and `2 * j + 1`. -/
theorem dyuvWords_getElem? {n j : Nat} (hj : j < n) (ptr : Nat) (c : Carry) :
    (s.dyuvWords n ptr c).1[2 * j]? = some (s.dyuvWordAt ptr c j).1 ∧
      (s.dyuvWords n ptr c).1[2 * j + 1]? = some (s.dyuvWordAt ptr c j).2.1 := by
  induction n generalizing j ptr c with
  | zero => omega
  | succ n ih =>
    cases j with
    | zero => exact ⟨rfl, rfl⟩
    | succ j =>
      rw [dyuvWordAt_succ]
      exact ih (by omega) (ptr + 2) _

/-- Bytes that grow by `d n` at step `n` are the first one plus the sum of the steps, modulo 256. -/
theorem toNat_eq_add_sum {f : Nat → Byte} {d : Nat → Nat}
    (hstep : ∀ n, (f (n + 1)).toNat = ((f n).toNat + d n) % 256) (n : Nat) :
    (f n).toNat = ((f 0).toNat + ((List.range n).map d).sum) % 256 := by
  induction n with
  | zero => simpa using (Nat.mod_eq_of_lt (f 0).isLt).symm
  | succ n ih =>
    rw [hstep, ih, Nat.mod_add_mod, List.sum_range_succ, Nat.add_assoc]

end Dyuv

/-! ## RGB555 (41 R175, 30 R103) -/

section Rgb555

theorem defaultRgb5_toNat (c : BitVec 5) : (defaultRgb5[c.toNat]'c.isLt).toNat = c.toNat * 8 := by
  have hc := c.isLt
  rw [defaultRgb5_eq_shift, BitVec.toNat_shiftLeft, BitVec.toNat_setWidth, Nat.shiftLeft_eq]
  omega

/-- The channels of an RGB555 word in the default layout with the default expansion. -/
theorem rgb555Px_default (w : BitVec 16) :
    let px := rgb555Px defaultFieldLayout defaultRgb5 w
    px.a = (if 32768 ≤ w.toNat then 255 else 0) ∧ px.r.toNat = w.toNat / 1024 % 32 * 8 ∧
      px.g.toNat = w.toNat / 32 % 32 * 8 ∧ px.b.toNat = w.toNat % 32 * 8 := by
  have halpha : w.getLsbD 15 = decide (32768 ≤ w.toNat) := getLsbD_top_eq w
  have hchannel (lo : Nat) : (defaultRgb5[(w.extractLsb' lo 5).toNat]'(w.extractLsb' lo 5).isLt).toNat =
      w.toNat / 2 ^ lo % 32 * 8 := by rw [defaultRgb5_toNat, toNat_extractLsb'_eq]; rfl
  refine ⟨?_, hchannel 10, hchannel 5, ?_⟩
  · simp only [rgb555Px, halpha, decide_eq_true_eq]
  · rw [← Nat.div_one w.toNat]
    exact hchannel 0

theorem rgb555_getElem? (s : State) (ptrA ptrB : Nat) {k : Nat} (hk : k < s.decodeWidth .b) :
    (s.rgb555 ptrA ptrB)[k]? = some (rgb555Px s.cfg.fields s.cfg.rgb5
      (rgb555Word s.cfg.fields (s.byteAt (ptrA + k)) (s.byteAt (ptrB + k)))) := by
  simp [State.rgb555, hk]

end Rgb555

/-! ## Run-length (41 R176, R177) -/

section RunLength

/-- A run-length decode keeps to the line: what it answers is exactly as wide as the line, from at least one byte and at
most `limit`, and under clamp it answers. -/
def State.FillsLine (s : State) (p : Plane) (limit : Nat) (items : Except Fault (Line × Nat)) : Prop :=
  (∀ q, items = .ok q → q.1.length = s.decodeWidth p ∧ 1 ≤ q.2 ∧ q.2 ≤ limit) ∧
    (s.cfg.rlOverrun = .clamp → ∃ q, items = .ok q)

variable (s : State) (p : Plane) (ptr unit : Nat) (colours : Byte → Line)

/-- The item loop from the start of the line fills it with whole units of at most two bytes each. -/
theorem rlItems_fillsLine (hunit : unit = 1 ∨ unit = 2) (hcolours : ∀ b, (colours b).length = unit) :
    s.FillsLine p (2 * (s.decodeWidth p / unit)) (s.rlItems p ptr unit colours (s.decodeWidth p) 0 0) := by
  have heven := decodeWidth_even s p
  have hwhole : s.decodeWidth p / unit * unit = s.decodeWidth p := by rcases hunit with rfl | rfl <;> omega
  have hpos : 1 ≤ s.decodeWidth p / unit := by rcases hunit with rfl | rfl <;> omega
  rcases rlItems_cases s p ptr unit colours (by omega) hcolours (s.decodeWidth p) 0 0 (s.decodeWidth p / unit)
      (by omega) (Nat.div_le_self _ _) with ⟨q, hq, hlength, hlow, hhigh⟩ | ⟨hfault, x, n, hq⟩
  · rw [hq]
    refine ⟨fun q' h => ?_, fun _ => ⟨q, rfl⟩⟩
    cases h
    omega
  · rw [hq]
    refine ⟨nofun, fun hclamp => ?_⟩
    rw [hfault] at hclamp
    cases hclamp

/-- RL7 shows the code in bits 6:0 (41 R176). -/
theorem rl7_eq (m : CodingMethod) : s.rl7 p m ptr =
    s.rlItems p ptr 1 (fun b => [s.codePx p m (b.toNat % 128)]) (s.decodeWidth p) 0 0 := by
  have hcode (b : Byte) : s.pix p m ((b.extractLsb' 0 7).setWidth 8) = s.codePx p m (b.toNat % 128) := by
    rw [pix_field s p m b 0 (by decide), Nat.pow_zero, Nat.div_one]
    rfl
  simp only [State.rl7, hcode]

/-- RL3 shows the codes in bits 6:4 and 2:0 (41 R177). -/
theorem rl3_eq (m : CodingMethod) : s.rl3 p m ptr =
    s.rlItems p ptr 2 (fun b => [s.codePx p m (b.toNat / 16 % 8), s.codePx p m (b.toNat % 8)])
      (s.decodeWidth p) 0 0 := by
  have hhigh (b : Byte) : s.pix p m ((b.extractLsb' 4 3).setWidth 8) = s.codePx p m (b.toNat / 16 % 8) :=
    pix_field s p m b 4 (by decide)
  have hlow (b : Byte) : s.pix p m ((b.extractLsb' 0 3).setWidth 8) = s.codePx p m (b.toNat % 8) := by
    rw [pix_field s p m b 0 (by decide), Nat.pow_zero, Nat.div_one]
    rfl
  simp only [State.rl3, hhigh, hlow]

theorem rl7_fillsLine (m : CodingMethod) : s.FillsLine p (2 * s.decodeWidth p) (s.rl7 p m ptr) := by
  have h := rlItems_fillsLine s p ptr 1 (fun b => [s.codePx p m (b.toNat % 128)]) (.inl rfl) fun _ => rfl
  rwa [Nat.div_one, ← rl7_eq] at h

theorem rl3_fillsLine (m : CodingMethod) : s.FillsLine p (s.decodeWidth p) (s.rl3 p m ptr) := by
  have h := rlItems_fillsLine s p ptr 2 (fun b => [s.codePx p m (b.toNat / 16 % 8), s.codePx p m (b.toNat % 8)])
    (.inr rfl) fun _ => rfl
  rwa [(decodeWidth_even s p).1, ← rl3_eq] at h

/-- The items of a run-length plane take between one byte and two bytes a pixel. -/
theorem runLengthItems_bytes {m : CodingMethod} {q : Line × Nat} (h : s.runLengthItems p m ptr = .ok q) :
    1 ≤ q.2 ∧ q.2 ≤ 2 * s.decodeWidth p := by
  unfold State.runLengthItems at h
  split at h
  · have := (rl3_fillsLine s p ptr m).1 q h
    omega
  · exact ((rl7_fillsLine s p ptr m).1 q h).2

/-! ### The units of one item -/

variable {left count : Nat} (x : Nat)

theorem runUnits_zero : s.runUnits p x left 0 = .ok left := by simp [State.runUnits]

theorem runUnits_of_le (hpos : 1 ≤ count) (hle : count ≤ left) : s.runUnits p x left count = .ok count := by
  simp [State.runUnits, hle, Nat.ne_of_gt hpos]

theorem runUnits_clamp (hlt : left < count) (hclamp : s.cfg.rlOverrun = .clamp) :
    s.runUnits p x left count = .ok left := by
  simp [State.runUnits, Nat.ne_of_gt (Nat.zero_lt_of_lt hlt), Nat.not_le_of_lt hlt, hclamp]

theorem runUnits_fault (hlt : left < count) (hfault : s.cfg.rlOverrun = .fault) :
    s.runUnits p x left count = .error (.runOverrun p s.y x count) := by
  simp [State.runUnits, Nat.ne_of_gt (Nat.zero_lt_of_lt hlt), Nat.not_le_of_lt hlt, hfault]

/-! ### One item -/

/-- The count that an item at byte `i` gives: its second byte with the count bit, else 1 (41 R176). -/
def State.itemCount (s : State) (ptr i : Nat) : Nat :=
  if 128 ≤ (s.byteAt (ptr + i)).toNat then (s.byteAt (ptr + i + 1)).toNat else 1

/-- The bytes that an item at byte `i` takes. -/
def State.itemBytes (s : State) (ptr i : Nat) : Nat := if 128 ≤ (s.byteAt (ptr + i)).toNat then 2 else 1

section Item

variable {s : State} {ptr i : Nat}

theorem itemCount_single (h : (s.byteAt (ptr + i)).toNat < 128) : s.itemCount ptr i = 1 := if_neg (by omega)

theorem itemBytes_single (h : (s.byteAt (ptr + i)).toNat < 128) : s.itemBytes ptr i = 1 := if_neg (by omega)

theorem itemCount_counted (h : 128 ≤ (s.byteAt (ptr + i)).toNat) :
    s.itemCount ptr i = (s.byteAt (ptr + i + 1)).toNat := if_pos h

theorem itemBytes_counted (h : 128 ≤ (s.byteAt (ptr + i)).toNat) : s.itemBytes ptr i = 2 := if_pos h

end Item

/-- The item loop within the line: the units of one item, then the items after it. -/
theorem rlItems_succ (fuel i : Nat) (hx : x < s.decodeWidth p) :
    s.rlItems p ptr unit colours (fuel + 1) x i =
      (s.runUnits p x ((s.decodeWidth p - x) / unit) (s.itemCount ptr i)).bind fun n =>
        (s.rlItems p ptr unit colours fuel (x + n * unit) (i + s.itemBytes ptr i)).map fun r =>
          ((List.replicate n (colours (s.byteAt (ptr + i)))).flatten ++ r.1, r.2) := by
  have hbit : (s.byteAt (ptr + i)).getLsbD 7 = decide (128 ≤ (s.byteAt (ptr + i)).toNat) := getLsbD_top_eq _
  have hbytes : (if (s.byteAt (ptr + i)).getLsbD 7 then i + 2 else i + 1) = i + s.itemBytes ptr i := by
    simp only [hbit, decide_eq_true_eq, State.itemBytes]
    split <;> rfl
  have hcount : (if (s.byteAt (ptr + i)).getLsbD 7 then (s.byteAt (ptr + i + 1)).toNat else 1) = s.itemCount ptr i := by
    simp only [hbit, decide_eq_true_eq, State.itemCount]
  rw [State.rlItems, if_pos hx]
  simp only [hcount, hbytes]
  cases s.runUnits p x ((s.decodeWidth p - x) / unit) (s.itemCount ptr i) with
  | error f => rfl
  | ok n =>
    simp only [Except.bind]
    cases s.rlItems p ptr unit colours fuel (x + n * unit) (i + s.itemBytes ptr i) <;> rfl

variable {s p unit x} (hunit : 1 ≤ unit) (hpos : 1 ≤ left) (hleft : s.decodeWidth p = x + left * unit)

include hunit hpos hleft in
/-- An item at pixel `x`, `left` units from the end of the line, in the item loop with the fuel of a whole line. -/
theorem rlItems_item (i : Nat) :
    s.rlItems p ptr unit colours (s.decodeWidth p) x i =
      (s.runUnits p x left (s.itemCount ptr i)).bind fun n =>
        (s.rlItems p ptr unit colours (s.decodeWidth p) (x + n * unit) (i + s.itemBytes ptr i)).map fun r =>
          ((List.replicate n (colours (s.byteAt (ptr + i)))).flatten ++ r.1, r.2) := by
  have hroom : left ≤ left * unit := Nat.le_mul_of_pos_right _ hunit
  have hunits : (s.decodeWidth p - x) / unit = left := by
    rw [hleft, Nat.add_sub_cancel_left, Nat.mul_div_cancel _ hunit]
  obtain ⟨fuel, hfuel⟩ : ∃ fuel, s.decodeWidth p = fuel + 1 := ⟨s.decodeWidth p - 1, by omega⟩
  rw [hfuel, rlItems_succ s p ptr unit colours x fuel i (by omega), hunits]
  rcases runUnits_cases s p x left (s.itemCount ptr i) hpos with ⟨n, hn, hn1, hnleft, -, -⟩ | ⟨-, -, hn⟩
  · have hrest : s.decodeWidth p = (x + n * unit) + (left - n) * unit := by
      rw [hleft, Nat.add_assoc, ← Nat.add_mul]
      congr 2
      omega
    simp only [hn, Except.bind]
    rw [rlItems_fuel s p ptr unit colours hunit (left - n) _ _ fuel (fuel + 1) hrest (by omega) (by omega)]
  · simp only [hn, Except.bind]

include hunit hpos hleft in
/-- An item that takes all the units left ends the line. -/
theorem rlItems_last (i : Nat) (h : s.runUnits p x left (s.itemCount ptr i) = .ok left) :
    s.rlItems p ptr unit colours (s.decodeWidth p) x i =
      .ok ((List.replicate left (colours (s.byteAt (ptr + i)))).flatten, i + s.itemBytes ptr i) := by
  rw [rlItems_item ptr colours hunit hpos hleft, h]
  simp only [Except.bind, ← hleft, rlItems_end, Except.map, List.append_nil]

end RunLength

end Machine
end Sys2Proof

namespace Sys2Proof.Proofs.PixelDecoders

open Sys2Proof.Machine

/-- Settles O50: the branches of the dispatch, and what each of its answers holds. -/
theorem decodedLineFillsTheBufferAndCountsItsBytes : Obligations.DecodedLineFillsTheBufferAndCountsItsBytes := by
  intro s p ptrA ptrB undecoded items
  refine ⟨decodeWidth_eq s p, fun hoff => ⟨_, decodePlane_off hoff, rfl, rfl, rfl⟩, decodePlane_beside_rgb555,
    fun hbeside hne => ?_, fun own other r h hbytes => ?_⟩
  · have hd : s.Decodes p := ⟨hbeside, hne⟩
    refine ⟨hd.mosaic, hd.runLength_nonClut, fun ht hm ptr hptr => ?_, hd.normal_ok⟩
    replace hptr : ptr = (AB.mk ptrA ptrB).get p := hptr
    rw [hd.runLength_clut ht hm, ← hptr]
    exact ⟨fun f hf => decodeRunLength_of_error hf, fun q hq => ⟨_, decodeRunLength_of_ok hq⟩⟩
  · obtain ⟨rfl, rfl⟩ : own = r.used p ∧ other = r.used (otherPlane p) := by
      cases p <;> exact Prod.mk.inj hbytes
    refine ⟨decodePlane_length h, fun hm ht => ?_, fun hm ht => ?_, fun hm => ?_, fun hne ht => ?_⟩
    · have hd := State.Decodes.of_ok h (by intro hoff; simp [hoff] at hm)
      by_cases hdyuv : s.codingMethod p = .dyuv
      · rw [hd.normal_dyuv ht hdyuv] at h
        cases h
        simp
      · rw [hd.normal_clutBytes ht (by simpa [hdyuv] using hm)] at h
        cases h
        simp
    · rw [(State.Decodes.of_ok h (by simp [hm])).normal_clut4 ht hm] at h
      cases h
      simp
    · rw [decodePlane_rgb555_ok h hm]
      exact ⟨rfl, rfl⟩
    · obtain ⟨q, hq, rfl⟩ := decodePlane_runLength_ok h hne ht
      obtain ⟨hlow, hhigh⟩ := runLengthItems_bytes s p _ hq
      rw [decodedFrom_used_same, decodedFrom_used_other]
      exact ⟨hlow, hhigh, rfl⟩

/-- Settles O51: the decoded pixel at `k`, and the index of its code under each method. -/
theorem indexedLineShowsItsEntries : Obligations.IndexedLineShowsItsEntries := by
  intro s p ptrA ptrB ptr x k r h ht hx hptr hk shown
  replace hptr : ptr = (AB.mk ptrA ptrB).get p := hptr
  have hlt : k < s.decodeWidth p := hk ▸ shown_lt_decodeWidth p hx
  have hbytes {m : CodingMethod} (hm : s.codingMethod p = m) (hmem : m ∈ [CodingMethod.clut8, .clut7, .clut77]) :
      r.px[x]? = some (s.pix p m (s.byteAt (ptr + k))) := by
    have hd := State.Decodes.of_ok h (by intro hoff; simp [← hm, hoff] at hmem)
    rw [hd.normal_clutBytes ht (hm ▸ hmem)] at h
    cases h
    rw [decodedFrom_px_getElem?, ← hk, ← hptr, clutBytes_getElem? s p ptr _ hlt, hm]
  refine ⟨fun hp hm => ?_, fun hp hm => ?_, fun hp hm => ?_, fun hp hm => ?_, fun hm => ?_⟩
  · rw [hbytes hm (by decide), pix_eq s p (n := (s.byteAt (ptr + k)).toNat) (by simp [codeValue, hp]),
      BitVec.ofNat_toNat, BitVec.setWidth_eq]
    rfl
  · exact (hbytes hm (by decide)).trans (congrArg some (pix_eq s p (by simp [codeValue, hp])))
  · exact (hbytes hm (by decide)).trans (congrArg some (pix_eq s p (by simp [codeValue, hp])))
  · exact (hbytes hm (by decide)).trans (congrArg some (pix_eq s p (by simp [codeValue, hp])))
  · rw [(State.Decodes.of_ok h (by simp [hm])).normal_clut4 ht hm] at h
    cases h
    rw [decodedFrom_px_getElem?, ← hk, ← hptr, clut4_getElem? s p ptr hlt]
    have hbyte := (s.byteAt (ptr + k / 2)).isLt
    refine congrArg some (pix_eq s p ?_)
    rw [codeValue_nibble (by split <;> omega)]
    cases p <;> simp

/-- Settles O52: the carry and the pixels word by word, and the DYUV answer of the dispatch. -/
theorem dyuvCarryAccumulatesDeltas : Obligations.DyuvCarryAccumulatesDeltas := by
  refine ⟨?_, fun s p ptrA ptrB ptr x r seed hm ht h hx hptr hseed => ?_⟩
  · intro s n ptr c w q r
    refine ⟨length_dyuvWords s n ptr c, dyuvWords_opaque s n ptr c, fun j hj => dyuvWords_getElem? s hj ptr c,
      toNat_eq_add_sum (f := fun n => (s.dyuvWords n ptr c).2.u) (fun j => ?_) n,
      toNat_eq_add_sum (f := fun n => (s.dyuvWords n ptr c).2.v) (fun j => ?_) n,
      toNat_eq_add_sum (f := fun n => (s.dyuvWords n ptr c).2.y) (fun j => ?_) n⟩
    all_goals simp only [dyuvWords_succ_carry, State.dyuvWordAt, dyuvWord, BitVec.toNat_add]
    · rfl
    · rfl
    · rw [Nat.mod_add_mod, Nat.add_assoc]
      rfl
  · replace hptr : ptr = (AB.mk ptrA ptrB).get p := hptr
    rw [(State.Decodes.of_ok h (by simp [hm])).normal_dyuv ht hm, ← hptr] at h
    cases h
    rw [decodedFrom_px_getElem?, decodedFrom_carry, hseed]
    exact ⟨rfl, rfl⟩

/-- Settles O53: the nibbles of the word are its deltas, and the sums are taken modulo 256. -/
theorem dyuvWordPixels : Obligations.DyuvWordPixels := by
  intro t m w c u2 v2 y1 y2 hu hy1 hv hy2 rgb map d
  have hw := w.isLt
  have hcu := c.u.isLt
  have hcv := c.v.isLt
  have hu2lt : u2 < 256 := hu ▸ Nat.mod_lt _ (by decide)
  have hv2lt : v2 < 256 := hv ▸ Nat.mod_lt _ (by decide)
  have hy1lt : y1 < 256 := hy1 ▸ Nat.mod_lt _ (by decide)
  have hy2lt : y2 < 256 := hy2 ▸ Nat.mod_lt _ (by decide)
  have hu' := add_dequantOf t c.u (q := w.extractLsb' 12 4) (by rw [toNat_extractLsb'_eq]; omega) hu
  have hy1' := add_dequantOf t c.y (q := w.extractLsb' 8 4) (toNat_extractLsb'_eq w 8 4) hy1
  have hv' := add_dequantOf t c.v (q := w.extractLsb' 4 4) (toNat_extractLsb'_eq w 4 4) hv
  have hy2' : BitVec.ofNat 8 y1 + dequantOf t (w.extractLsb' 0 4) = BitVec.ofNat 8 y2 :=
    add_dequantOf t _ (i := w.toNat % 16) (by rw [toNat_extractLsb'_eq]; omega)
      (by rw [BitVec.toNat_ofNat, Nat.mod_eq_of_lt hy1lt]; exact hy2)
  have hd : d = (map y1 ((c.u.toNat + u2) / 2) ((c.v.toNat + v2) / 2), map y2 u2 v2,
      ⟨BitVec.ofNat 8 y2, BitVec.ofNat 8 u2, BitVec.ofNat 8 v2⟩) := by
    simp only [map, ← chromaAverage_ofNat hu2lt, ← chromaAverage_ofNat hv2lt]
    exact dyuvWord_eq t m w c hu' hy1' hv' hy2'
  rw [hd]
  refine ⟨rfl, rfl, yuv2rgb_opaque .., yuv2rgb_opaque .., fun hm => ?_, rfl⟩
  subst hm
  exact ⟨standardYuv2rgb_ofNat hy1lt (by omega) (by omega), standardYuv2rgb_ofNat hy2lt hu2lt hv2lt⟩

/-- Settles O54: the word of the two streams' bytes at `k`, and its fields. -/
theorem rgb555LinePixels : Obligations.Rgb555LinePixels := by
  intro s ptrA ptrB x k w r hm h hrgb5 hfields hx hk hw
  have hlt : k < s.decodeWidth .b := hk ▸ shown_lt_decodeWidth .b hx
  have hword : (s.byteAt (ptrA + k) ++ s.byteAt (ptrB + k)).toNat = w := (toNat_append_eq _ _).trans hw.symm
  refine ⟨_, ?_, hword ▸ rgb555Px_default (s.byteAt (ptrA + k) ++ s.byteAt (ptrB + k))⟩
  rw [decodePlane_rgb555_ok h hm]
  simp only [spread_getElem?, dup_eq_true_iff]
  replace hk : k = if (s.dp.get .b).bpp = .normal8 then x / 2 else x := hk
  rw [← hk, rgb555_getElem? s ptrA ptrB hlt, hfields, hrgb5]
  rfl

/-- Settles O55: both formats run the item loop from the start of the line. -/
theorem runLengthFillsTheLineExactly : Obligations.RunLengthFillsTheLineExactly := by
  intro s p m ptr
  obtain ⟨hfill7, hclamp7⟩ := rl7_fillsLine s p ptr m
  obtain ⟨hfill3, hclamp3⟩ := rl3_fillsLine s p ptr m
  exact ⟨hfill7, hfill3, fun hclamp => ⟨hclamp7 hclamp, hclamp3 hclamp⟩⟩

/-- Settles O56: one item of the loop for each clause, the codes of a unit, and the dispatch to the loop. -/
theorem runLengthItemsGiveTheirPixels : Obligations.RunLengthItemsGiveTheirPixels := by
  refine ⟨?_, ?_, fun s p ptrA ptrB ptr x r hne ht h hx hptr => ?_⟩
  · intro s p ptr unit colours hunit items
    refine ⟨rlItems_end s p ptr unit colours _, ?_⟩
    intro x i n left b hx hdvd hb hn hleft
    subst hb hn
    intro units after
    have heven := decodeWidth_even s p
    have hunitPos : 1 ≤ unit := by omega
    obtain ⟨hpos, hline⟩ : 1 ≤ left ∧ s.decodeWidth p = x + left * unit := by
      obtain ⟨j, rfl⟩ := hdvd
      rcases hunit with rfl | rfl <;> omega
    have hloop : items x i =
        (s.runUnits p x left (s.itemCount ptr i)).bind fun k => after k (s.itemBytes ptr i) :=
      rlItems_item ptr colours hunitPos hpos hline i
    have hlast (hk : s.runUnits p x left (s.itemCount ptr i) = .ok left) :
        items x i = .ok (units left, i + s.itemBytes ptr i) := rlItems_last ptr colours hunitPos hpos hline i hk
    refine ⟨fun h => ?_, fun h h1 hle => ?_, fun h h0 => ?_, fun h hlt hclamp => ?_, fun h hlt hfault => ?_⟩
    · rw [itemCount_single h, itemBytes_single h, runUnits_of_le s p x le_rfl hpos] at hloop
      exact hloop
    all_goals rw [itemCount_counted h, itemBytes_counted h] at hloop hlast
    · rw [runUnits_of_le s p x h1 hle] at hloop
      exact hloop
    · exact hlast (h0 ▸ runUnits_zero s p x)
    · exact hlast (runUnits_clamp s p x hlt hclamp)
    · rw [runUnits_fault s p x hlt hfault] at hloop
      exact hloop
  · exact fun s p m ptr _ _ => ⟨rl7_eq s p ptr m, rl3_eq s p ptr m⟩
  · replace hptr : ptr = (AB.mk ptrA ptrB).get p := hptr
    obtain ⟨q, hq, rfl⟩ := decodePlane_runLength_ok h hne ht
    exact ⟨q, hptr ▸ hq, decodedFrom_px_getElem? s p q.1 q.2 _ x, decodedFrom_used_same s p q.1 q.2 _⟩

end Sys2Proof.Proofs.PixelDecoders

/-! SUPPORT. The matte tracker (42_matte_tracker): a plane's step at a position, and what the factor write, the flag write and
the advance of a command read back as. -/

namespace Sys2Proof

/-- The entry that `matteEntry` builds decodes to the command of its opcode (30_encoding R97, R98). -/
theorem decodeMatte_matteEntry (mop : BitVec 4) (mf : BitVec 1) (micf : BitVec 6) (mxp : BitVec 9) :
    decodeMatte defaultMatteLayout (matteEntry mop mf micf mxp) = decodeMatteFields mop mf micf mxp := by
  obtain ⟨hop, hflag, hfactor, hx⟩ := matteEntry_fields mop mf micf mxp
  rw [decodeMatte_eq, hop, hflag, hfactor, hx]

namespace Machine

section Tracker

variable {s : State}

/-! ## A plane's step at a position (42 R211, 46 R292) -/

/-- A tracker step executes nothing when its plane's pointer is END or at an entry whose position lies ahead. -/
theorem reachedMatte_eq_none_iff (s : State) : s.reachedMatte = none ↔
    ∀ i : Fin 8, s.mptr.get s.line.plane = some i → s.line.k < (matteX s.cfg.enc.matte (s.matteAt i)).toNat := by
  simp only [Option.eq_none_iff_forall_ne_some, ne_eq, reachedMatte_eq_some_iff]
  refine ⟨fun hnone i hptr => ?_, fun hahead c ⟨i, hptr, hx, _⟩ => ?_⟩
  · exact not_le.mp fun hx => hnone _ ⟨i, hptr, hx, rfl⟩
  · exact absurd hx (not_le.mpr (hahead i hptr))

theorem matteStep_of_unreached (h : s.reachedMatte = none) : s.matteStep = .next s.afterMatte := by
  simp only [State.matteStep, h]

theorem matteStep_of_reached {c : Payload} {t : State} (h : s.reachedMatte = some c)
    (hexec : exec (decodeMatte s.cfg.enc.matte c) s = .next t) : s.matteStep = .next t.afterMatte := by
  simp only [State.matteStep, h, hexec]

theorem afterMatte_of_fault (h : s.fault ≠ none) : s.afterMatte = s :=
  if_pos (Option.isSome_iff_ne_none.mpr h)

theorem afterMatte_planeA (hfault : s.fault = none) (hplane : s.line.plane = .a) :
    s.afterMatte = { s with line := { s.line with plane := .b }, phase := .matte } := by
  simp [State.afterMatte, hfault, hplane]

theorem afterMatte_planeB (hfault : s.fault = none) (hplane : s.line.plane = .b) :
    s.afterMatte = { s with phase := .pixels } := by
  simp [State.afterMatte, hfault, hplane]

/-- No matte command changes which plane's tracker steps, or where. -/
theorem exec_decodeMatte_line {l : MatteLayout} {c : Payload} {t : State}
    (hexec : exec (decodeMatte l c) s = .next t) : t.line = s.line := by
  obtain ⟨u, hu, heffect⟩ := exec_matte s _ (decodeMatte_isMatte l c)
  cases hu.symm.trans hexec
  rw [heffect.fields]

/-! ## What a command writes (42 R213 to R219) -/

/-- The factor register reads as the command's factor, zero-extended (42 R215). -/
theorem matteSetFactor_toNat (s : State) (q : Plane) (micf : BitVec 6) :
    ((s.matteSetFactor q micf).reg (.icf q)).toNat = micf.toNat := by
  rw [State.matteSetFactor, reg_setReg_same, BitVec.toNat_setWidth_of_le (by decide)]

theorem matteSetFactor_sameRegsBut (s : State) (q : Plane) (micf : BitVec 6) :
    SameRegsBut (.icf q) s (s.matteSetFactor q micf) := fun _ hz => reg_setReg_other s _ hz

/-- A command that writes registers, flags or the log before its advance moves the pointer from where it found it (42 R219). -/
theorem matteAdvanced_of_write {u : State} {i : Fin 8} (hu : u = { s with regs := u.regs, mflag := u.mflag, log := u.log })
    (hptr : s.mptr.get s.line.plane = some i) (hlim : i.val < (s.mlim.get s.line.plane).val) :
    MatteAdvanced s u.matteAdvance i := by
  rw [hu]
  exact matteAdvance_advanced hptr hlim

end Tracker

end Machine

end Sys2Proof

namespace Sys2Proof.Proofs.MatteTracker

open Sys2Proof.Machine

/-- Settles O7: the entry's bytes decode to the command that the step executes, which leaves the line's plane as it is. -/
theorem stepRunsTheReachedMatteCommand : Obligations.StepRunsTheReachedMatteCommand := by
  intro s t j i hmatte hptr hx hdecode hexec
  rw [decode_bytesOfEntry] at hdecode
  cases hdecode
  have hstep : step s = .next t.afterMatte :=
    (step_matte hmatte).trans
      (matteStep_of_reached ((reachedMatte_eq_some_iff s _).mpr ⟨j, hptr, hx, rfl⟩) hexec)
  have hline := exec_decodeMatte_line hexec
  rw [hstep]
  refine ⟨fun hfault => ?_, fun hfault hplane => ?_, fun hfault hplane => ?_⟩
  · rw [afterMatte_of_fault hfault]
  · rw [afterMatte_planeA hfault (hline ▸ hplane)]
  · rw [afterMatte_planeB hfault (hline ▸ hplane)]

/-- Settles O8: with no entry reached the step only moves on. -/
theorem unreachedMatteCommandWaits : Obligations.UnreachedMatteCommandWaits := by
  intro s hmatte hfault hahead
  have hstep : step s = .next s.afterMatte :=
    (step_matte hmatte).trans (matteStep_of_unreached ((reachedMatte_eq_none_iff s).mpr hahead))
  rw [hstep]
  refine ⟨fun hplane => ?_, fun hplane => ?_⟩
  · rw [afterMatte_planeA hfault hplane, ← hmatte]
  · rw [afterMatte_planeB hfault hplane]

/-- Settles O23: the pointer of the stepping plane is written, the other plane's is not. -/
theorem matteEndStopsThePlane : Obligations.MatteEndStopsThePlane := fun s mf micf mxp =>
  ⟨decodeMatte_matteEntry 0 mf micf mxp, _, rfl, AB.get_set_same _ _ _,
    AB.get_set_other _ _ (otherPlane_ne s.line.plane), rfl, fun _ => rfl⟩

/-- Settles O24: each row is the factor write of the plane it names, then the advance. -/
theorem matteFactorCommands : Obligations.MatteFactorCommands := by
  intro s mf micf mxp i hptr hlim row hrow
  have hcommand : decodeMatteFields row.1 mf micf mxp = row.2.1 ∧
      exec row.2.1 s = .next (s.matteSetFactor row.2.2 micf).matteAdvance := by
    fin_cases hrow <;> exact ⟨rfl, rfl⟩
  obtain ⟨hdecode, hexec⟩ := hcommand
  exact ⟨(decodeMatte_matteEntry ..).trans hdecode, _, hexec, matteSetFactor_toNat s row.2.2 micf,
    matteSetFactor_sameRegsBut s row.2.2 micf, matteAdvanced_of_write rfl hptr hlim, rfl, fun _ => rfl⟩

/-- Settles O25: each row is a write of the named flag, then the advance. -/
theorem matteFlagCommands : Obligations.MatteFlagCommands := by
  intro s mf micf mxp i hptr hlim row hrow
  have hcommand : decodeMatteFields row.1 mf micf mxp = row.2.1 ∧
      exec row.2.1 s = .next (s.matteSetFlag mf row.2.2).matteAdvance := by
    fin_cases hrow <;> exact ⟨rfl, rfl⟩
  obtain ⟨hdecode, hexec⟩ := hcommand
  exact ⟨(decodeMatte_matteEntry ..).trans hdecode, _, hexec, matteSetFlag_set s mf row.2.2,
    matteAdvanced_of_write rfl hptr hlim, rfl, fun _ => rfl⟩

/-- Settles O26: each row is the factor write, the flag write and the advance. -/
theorem matteCombinedCommands : Obligations.MatteCombinedCommands := by
  intro s mf micf mxp i hptr hlim row hrow
  have hcommand : decodeMatteFields row.1 mf micf mxp = row.2.1 ∧
      exec row.2.1 s = .next ((s.matteSetFactor row.2.2.1 micf).matteSetFlag mf row.2.2.2).matteAdvance := by
    fin_cases hrow <;> exact ⟨rfl, rfl⟩
  obtain ⟨hdecode, hexec⟩ := hcommand
  exact ⟨(decodeMatte_matteEntry ..).trans hdecode, _, hexec, matteSetFactor_toNat s row.2.2.1 micf,
    matteSetFactor_sameRegsBut s row.2.2.1 micf, matteSetFlag_set (s.matteSetFactor row.2.2.1 micf) mf row.2.2.2,
    matteAdvanced_of_write rfl hptr hlim, rfl, fun _ => rfl⟩

/-- Settles O27: each row is the reserved operation of its opcode, which `MATTE_RESERVED` decides. -/
theorem reservedMatteCommands : Obligations.ReservedMatteCommands := by
  intro s mf micf mxp i hptr hlim row hrow
  have hcommand : decodeMatteFields row.2 mf micf mxp = row.1 ∧ exec row.1 s = .next (s.matteReservedOp row.2) := by
    fin_cases hrow <;> exact ⟨rfl, rfl⟩
  obtain ⟨hdecode, hexec⟩ := hcommand
  refine ⟨(decodeMatte_matteEntry ..).trans hdecode, ?_⟩
  rw [hexec]
  rcases matteReservedOp_cases s row.2 with ⟨hpolicy, hcase⟩ | ⟨hpolicy, hcase⟩ <;> rw [hcase, hpolicy]
  · exact ⟨fun _ => ⟨_, rfl, rfl, matteAdvanced_of_write rfl hptr hlim, rfl, fun _ => rfl⟩, nofun⟩
  · rw [hptr]
    exact ⟨nofun, fun _ hfault => ⟨_, rfl, raise_faulted _ hfault⟩⟩

end Sys2Proof.Proofs.MatteTracker

/-! SUPPORT. The transparency resolver (43_transparency): the condition of each mode, what a condition makes of a pixel's
alpha, and the fields of the default layout. -/

namespace Sys2Proof.Machine

section Resolver

variable {l : FieldLayout} {mask tcol : Payload} {f : FlagPair} {t : BitVec 4} {px : Px}

/-! ## The nibble and the key (30 R88, 43 R231) -/

theorem nibbleMode_toNat (l : FieldLayout) (t : BitVec 4) : (nibbleMode l t).toNat = t.toNat / 2 ^ l.mode % 8 :=
  toNat_extractLsb'_eq t l.mode 3

/-- The key holds when the pixel's colour is the stored colour where the mask looks. -/
theorem colourKey_eq (l : FieldLayout) (mask tcol : Payload) (px : Px) : colourKey l mask tcol px =
    decide ((px.r ++ px.g ++ px.b) &&& mask =
      (tcol.extractLsb' l.red 8 ++ tcol.extractLsb' l.green 8 ++ tcol.extractLsb' l.blue 8) &&& mask) := rfl

/-- The three bytes of a payload, the high one first, are the payload. -/
theorem payload_of_bytes (d : Payload) : d.extractLsb' 16 8 ++ d.extractLsb' 8 8 ++ d.extractLsb' 0 8 = d := by
  have hhigh : d.extractLsb' 16 8 ++ d.extractLsb' 8 8 = d.extractLsb' 8 16 :=
    BitVec.extractLsb'_append_extractLsb'_eq_extractLsb' rfl
  have hall : d.extractLsb' 8 16 ++ d.extractLsb' 0 8 = d.extractLsb' 0 24 :=
    BitVec.extractLsb'_append_extractLsb'_eq_extractLsb' rfl
  rw [hhigh, hall, BitVec.extractLsb'_eq_self]

/-! ## Conditions and polarity (43 R232, R233, R235) -/

/-- The conditions of the modes 0 to 6 in their order, for a key of value `k`; mode 7 has none. -/
def modeConditions (k : Bool) (f : FlagPair) (px : Px) : List Bool :=
  [true, k, px.a == 0, f.f0, f.f1, f.f0 || k, f.f1 || k]

theorem transparencyCondition_eq (l : FieldLayout) (mask tcol : Payload) (f : FlagPair) (px : Px) (mode : BitVec 3) :
    transparencyCondition l mask tcol f px mode = (modeConditions (colourKey l mask tcol px) f px)[mode.toNat]? := by
  obtain ⟨⟨m, hm⟩⟩ := mode
  interval_cases m <;> rfl

/-- The alpha that a pixel gets when its condition is `c` under polarity `p`. -/
def shownAlpha (p c : Bool) : Byte := if p then (if c then 255 else 0) else (if c then 0 else 255)

theorem shownAlpha_eq (p c : Bool) : shownAlpha p c = if xor c p then 0 else 255 := by
  cases p <;> cases c <;> rfl

theorem resolvePixel_of_condition {c : Bool}
    (h : transparencyCondition l mask tcol f px (nibbleMode l t) = some c) :
    resolvePixel l mask tcol f t px = { px with a := shownAlpha (t.getLsbD l.polarity) c } := by
  rw [shownAlpha_eq]
  simp only [resolvePixel, h] <;> rfl

theorem resolvePixel_of_no_condition (h : transparencyCondition l mask tcol f px (nibbleMode l t) = none) :
    resolvePixel l mask tcol f t px = px := by
  simp only [resolvePixel, h]

/-- The resolver keeps the colour channels. -/
theorem resolvePixel_colour (l : FieldLayout) (mask tcol : Payload) (f : FlagPair) (t : BitVec 4) (px : Px) :
    (resolvePixel l mask tcol f t px).r = px.r ∧ (resolvePixel l mask tcol f t px).g = px.g ∧
      (resolvePixel l mask tcol f t px).b = px.b := by
  cases h : transparencyCondition l mask tcol f px (nibbleMode l t) with
  | none => rw [resolvePixel_of_no_condition h]; exact ⟨rfl, rfl, rfl⟩
  | some c => rw [resolvePixel_of_condition h]; exact ⟨rfl, rfl, rfl⟩

end Resolver

end Sys2Proof.Machine

namespace Sys2Proof.Proofs.Transparency

open Sys2Proof.Machine

/-- Settles O57: the mode picks its row of the conditions, the polarity makes the alpha of it, and mode 7 picks none. -/
theorem resolvedAlphaTable : Obligations.ResolvedAlphaTable := by
  intro l mask tcol key f t px k p m hm hp hkey hk
  rw [hkey, ← colourKey_eq] at hk
  have hcondition : transparencyCondition l mask tcol f px (nibbleMode l t) =
      (modeConditions k f px)[m]? := by
    rw [transparencyCondition_eq, nibbleMode_toNat, ← hm, ← hk]
  have halpha {c : Bool} (h : (modeConditions k f px)[m]? = some c) :
      (resolvePixel l mask tcol f t px).a = shownAlpha p c := by
    rw [resolvePixel_of_condition (hcondition.trans h), hp]
  obtain ⟨hred, hgreen, hblue⟩ := resolvePixel_colour l mask tcol f t px
  refine ⟨fun h => halpha (h ▸ rfl), fun h => halpha (h ▸ rfl), fun h => halpha (h ▸ rfl), fun h => halpha (h ▸ rfl),
    fun h => halpha (h ▸ rfl), fun h => halpha (h ▸ rfl), fun h => halpha (h ▸ rfl),
    fun h => ?_, hred, hgreen, hblue, ?_⟩
  · rw [resolvePixel_of_no_condition (hcondition.trans (h ▸ rfl))]
  · rintro rfl
    exact ⟨by rw [hm]; exact congrArg (· % 8) (Nat.div_one _), hp.trans (getLsbD_top_eq t),
      hkey.trans (payload_of_bytes tcol)⟩

end Sys2Proof.Proofs.Transparency

/-! SUPPORT. The plane compositor (44_compositor): the clamp and the truncated division of the contribution scaling, the
neutral value 16 of a mix, and the gates of the backdrop. -/

namespace Sys2Proof.Machine

/-! ## The clamp (00_scope R10) -/

theorem clamp8_toNat (x : Int) : ((clamp8 x).toNat : Int) = min (max x 0) 255 := by
  rw [clamp8, BitVec.toNat_ofNat, Nat.mod_eq_of_lt (by omega), Int.toNat_of_nonneg (by omega)]

/-- The clamp does not act on 0..255. -/
theorem clamp8_toNat_of_range {x : Int} (hlow : 0 ≤ x) (hhigh : x ≤ 255) : ((clamp8 x).toNat : Int) = x := by
  rw [clamp8_toNat]
  omega

/-! ## Contribution scaling (44 R251, R256) -/

section Scaling

variable {f : BitVec 6} {v : Byte}

/-- The truncated quotient of `scale(f, v)`, by the side of 16 on which the channel lies. -/
def scaleQuotient (f : BitVec 6) (v : Byte) : Int :=
  if 16 ≤ v.toNat then ((f.toNat * (v.toNat - 16) / 63 : Nat) : Int) else -((f.toNat * (16 - v.toNat) / 63 : Nat) : Int)

theorem scaleQuotient_of_ge (h : 16 ≤ v.toNat) :
    scaleQuotient f v = ((f.toNat * (v.toNat - 16) / 63 : Nat) : Int) := if_pos h

theorem scaleQuotient_of_lt (h : v.toNat < 16) :
    scaleQuotient f v = -((f.toNat * (16 - v.toNat) / 63 : Nat) : Int) := if_neg (by omega)

/-- Truncation toward zero: the division is of the distance to 16, the sign is put back after it. -/
theorem scaleInt_eq (f : BitVec 6) (v : Byte) : scaleInt f v = scaleQuotient f v + 16 := by
  unfold scaleInt tdiv
  congr 1
  by_cases h : 16 ≤ v.toNat
  · have hdist : (v.toNat : Int) - 16 = ((v.toNat - 16 : Nat) : Int) := by omega
    rw [scaleQuotient_of_ge h, hdist]
    exact Int.ofNat_tdiv _ _
  · have hdist : (v.toNat : Int) - 16 = -((16 - v.toNat : Nat) : Int) := by omega
    rw [scaleQuotient_of_lt (by omega), hdist, Int.mul_neg, Int.neg_tdiv]
    exact congrArg Neg.neg (Int.ofNat_tdiv _ _)

/-- A factor is at most 63, so a scaled distance is at most the distance. -/
theorem factor_mul_div_le (f : BitVec 6) (d : Nat) : f.toNat * d / 63 ≤ d :=
  Nat.div_le_of_le_mul (Nat.mul_le_mul_right d (by omega))

/-- Scaling moves no channel out of 0..255. -/
theorem scaleQuotient_range (f : BitVec 6) (v : Byte) : 0 ≤ scaleQuotient f v + 16 ∧ scaleQuotient f v + 16 ≤ 255 := by
  by_cases h : 16 ≤ v.toNat
  · have hle := factor_mul_div_le f (v.toNat - 16)
    rw [scaleQuotient_of_ge h]
    omega
  · have hle := factor_mul_div_le f (16 - v.toNat)
    rw [scaleQuotient_of_lt (by omega)]
    omega

theorem scale_toNat (f : BitVec 6) (v : Byte) : ((scale f v).toNat : Int) = scaleQuotient f v + 16 := by
  obtain ⟨hlow, hhigh⟩ := scaleQuotient_range f v
  rw [scale, scaleInt_eq, clamp8_toNat_of_range hlow hhigh]

theorem scale_eq_of_quotient {w : Byte} (h : scaleQuotient f v + 16 = w.toNat) : scale f v = w :=
  BitVec.eq_of_toNat_eq (Int.ofNat.inj ((scale_toNat f v).trans h))

theorem scale_max_factor (v : Byte) : scale 63 v = v := by
  have hfactor : (63 : BitVec 6).toNat = 63 := rfl
  apply scale_eq_of_quotient
  by_cases h : 16 ≤ v.toNat
  · rw [scaleQuotient_of_ge h, hfactor]
    omega
  · rw [scaleQuotient_of_lt (by omega), hfactor]
    omega

theorem scale_zero_factor (v : Byte) : scale 0 v = 16 := by
  apply scale_eq_of_quotient
  simp [scaleQuotient]

/-- The value 16 is neutral: its distance to 16 is 0 under every factor. -/
theorem scale_neutral (f : BitVec 6) : scale f 16 = 16 := by
  apply scale_eq_of_quotient
  simp [scaleQuotient]

end Scaling

/-! ## Mix (44 R254, R256) -/

section Mix

variable {qA qB : Px} (fA fB : BitVec 6)

theorem mixChannel_toNat (x y : Byte) : (mixChannel x y).toNat = min (x.toNat + y.toNat - 16) 255 := by
  have h := clamp8_toNat ((x.toNat : Int) + (y.toNat : Int) - 16)
  rw [mixChannel]
  omega

theorem mixChannel_comm (x y : Byte) : mixChannel x y = mixChannel y x := by
  rw [mixChannel, mixChannel, Int.add_comm]

@[simp] theorem mixChannel_neutral_right (x : Byte) : mixChannel x 16 = x := by
  have hneutral : (16 : Byte).toNat = 16 := rfl
  apply BitVec.eq_of_toNat_eq
  rw [mixChannel_toNat, hneutral]
  omega

@[simp] theorem mixChannel_neutral_left (y : Byte) : mixChannel 16 y = y := by
  rw [mixChannel_comm, mixChannel_neutral_right]

theorem mixPart_of_transparent {f : BitVec 6} {px : Px} (h : px.a = 0) : mixPart f px = ⟨0, 16, 16, 16⟩ := if_pos h

theorem mixPart_of_visible {f : BitVec 6} {px : Px} (h : px.a ≠ 0) : mixPart f px = scalePx f px := if_neg h

/-- A transparent pixel of plane B leaves what plane A brings. -/
theorem mixPx_of_transparent_right (h : qB.a = 0) : mixPx qA qB fA fB = { mixPart fA qA with a := 255 } := by
  simp only [mixPx, mixPart_of_transparent h, mixChannel_neutral_right]

/-- A transparent pixel of plane A leaves what plane B brings. -/
theorem mixPx_of_transparent_left (h : qA.a = 0) : mixPx qA qB fA fB = { mixPart fB qB with a := 255 } := by
  simp only [mixPx, mixPart_of_transparent h, mixChannel_neutral_left]

theorem mixPx_of_visible (hA : qA.a ≠ 0) (hB : qB.a ≠ 0) : mixPx qA qB fA fB =
    ⟨255, mixChannel (scale fA qA.r) (scale fB qB.r), mixChannel (scale fA qA.g) (scale fB qB.g),
      mixChannel (scale fA qA.b) (scale fB qB.b)⟩ := by
  simp only [mixPx, mixPart_of_visible hA, mixPart_of_visible hB, scalePx]

end Mix

/-! ## Backdrop (44 R250) -/

/-- The backdrop at the level that bit 3 of its code selects: each gate passes the level or nothing. -/
theorem backdropPx_of_level (s : State) {code : BitVec 4} {lvl : Byte}
    (hcode : code = (s.reg .backdrop).extractLsb' s.cfg.fields.backdrop 4)
    (hlvl : lvl = if code.getLsbD 3 then s.cfg.bdFull else s.cfg.bdHalf) :
    s.backdropPx = ⟨255, if code.getLsbD s.cfg.fields.gateR then lvl else 0,
      if code.getLsbD s.cfg.fields.gateG then lvl else 0, if code.getLsbD s.cfg.fields.gateB then lvl else 0⟩ := by
  rw [hlvl, hcode]
  rfl

end Sys2Proof.Machine

namespace Sys2Proof.Proofs.Compositor

open Sys2Proof.Machine

/-- Settles O59: 16 is neutral in a mix, so a transparent pixel leaves the other plane's scaled one; two visible pixels mix
channel by channel. -/
theorem mixSumsTheScaledPlanes : Obligations.MixSumsTheScaledPlanes := by
  intro qA qB fA fB
  refine ⟨rfl, fun hA hB => ?_, fun hA hB => ?_, fun hA hB => ?_, fun hA hB => ?_⟩
  · rw [mixPx_of_transparent_right fA fB hB, mixPart_of_transparent hA]
  · rw [mixPx_of_transparent_right fA fB hB, mixPart_of_visible hA, scalePx]
  · rw [mixPx_of_transparent_left fA fB hA, mixPart_of_visible hB, scalePx]
  · rw [mixPx_of_visible fA fB hA hB]
    exact ⟨mixChannel_toNat _ _, mixChannel_toNat _ _, mixChannel_toNat _ _⟩

/-- Settles O58: the scaled channel is its truncated quotient plus 16, and the identities are values of that quotient. -/
theorem scaleIdentities : Obligations.ScaleIdentities := by
  refine ⟨scale_eq_of_quotient rfl, scale_eq_of_quotient rfl, scale_max_factor, scale_zero_factor, scale_neutral,
    fun f v => ?_, fun _ _ => rfl⟩
  obtain ⟨hlow, hhigh⟩ := scaleQuotient_range f v
  exact ⟨hlow, hhigh, scale_toNat f v⟩

/-- Settles O60: the backdrop is the YRGB colour of its code, at the level that bit 3 selects. -/
theorem backdropFollowsItsCode : Obligations.BackdropFollowsItsCode := by
  intro s code lvl hcode hlvl
  rw [backdropPx_of_level s hcode hlvl]
  refine ⟨rfl, rfl, rfl, rfl, fun hdefault => ?_⟩
  rw [hdefault]
  exact ⟨rfl, rfl, rfl, rfl⟩

end Sys2Proof.Proofs.Compositor

/-! SUPPORT. The cursor (45_cursor): what the fields of its registers read, which screen pixels the overlay paints in which
colour, and what a tick of the blink timer does in each case. -/

namespace Sys2Proof.Machine

section Cursor

variable {s : State}

/-! ## The fields of the cursor registers (30 R95) -/

theorem fieldGet_eq (f : Field) (d : Payload) : fieldGet f d = d.toNat / 2 ^ f.lo % 2 ^ f.width := by
  rw [fieldGet, Nat.shiftRight_eq_div_pow]

theorem cursorX_eq (s : State) :
    s.cursorX = (s.reg .curpos).toNat / 2 ^ s.cfg.cursor.cx.lo % 2 ^ s.cfg.cursor.cx.width := fieldGet_eq _ _

theorem cursorY_eq (s : State) :
    s.cursorY = (s.reg .curpos).toNat / 2 ^ s.cfg.cursor.cy.lo % 2 ^ s.cfg.cursor.cy.width := fieldGet_eq _ _

theorem cursorOn_eq (s : State) :
    s.cursorOn = (s.reg .curctl).toNat / 2 ^ s.cfg.cursor.con.lo % 2 ^ s.cfg.cursor.con.width := fieldGet_eq _ _

theorem cursorOff_eq (s : State) :
    s.cursorOff = (s.reg .curctl).toNat / 2 ^ s.cfg.cursor.coff.lo % 2 ^ s.cfg.cursor.coff.width := fieldGet_eq _ _

/-! ## The overlay (45 R270 to R275) -/

theorem cursorBit_fin (s : State) (r : Fin 16) (c : Nat) : s.cursorBit r.val c = (s.curpatAt r).getLsbD (15 - c) :=
  dif_pos r.isLt

/-- A cursor pixel is two columns wide at the normal resolution and one at the double one (45 R275). -/
theorem mem_cursorColumns (res : DisplayRes) (cx c x : Nat) : x ∈ cursorColumns res cx c ↔
    (res = .normal ∧ (x = 2 * (cx / 2 + c) ∨ x = 2 * (cx / 2 + c) + 1)) ∨ (res = .doubleHigh ∧ x = cx + c) := by
  cases res <;> simp [cursorColumns]

/-- The painted cells in the terms of the pattern's rows: a set pixel covers the position, and the screen holds it. -/
theorem mem_cursorCells_iff_covered (s : State) (l x : Nat) : (l, x) ∈ s.cursorCells ↔
    l < s.cfg.height ∧ x < s.cfg.width ∧
      ∃ (r : Fin 16) (c : Nat), c < 16 ∧ (s.curpatAt r).getLsbD (15 - c) = true ∧ l = s.cursorY + r.val ∧
        ((s.cfg.displayRes = .normal ∧ (x = 2 * (s.cursorX / 2 + c) ∨ x = 2 * (s.cursorX / 2 + c) + 1)) ∨
          (s.cfg.displayRes = .doubleHigh ∧ x = s.cursorX + c)) := by
  simp only [mem_cursorCells, ← mem_cursorColumns, ← cursorBit_fin]
  constructor
  · rintro ⟨r, hr, c, hc, hbit, hline, hcolumn, hl, hx⟩
    exact ⟨hl, hx, ⟨r, hr⟩, c, hc, hbit, hline, hcolumn⟩
  · rintro ⟨hl, hx, r, c, hc, hbit, hline, hcolumn⟩
    exact ⟨r.val, r.isLt, c, hc, hbit, hline, hcolumn, hl, hx⟩

/-- The cursor's colour at the level that bit 3 of its code selects: each gate passes the level or nothing (45 R271). -/
theorem cursorColour_of_level {code : BitVec 4} {lvl : Byte}
    (hcode : code = (s.reg .curctl).extractLsb' s.cfg.cursor.ccol 4)
    (hlvl : lvl = if code.getLsbD 3 then s.cfg.bdFull else s.cfg.bdHalf) :
    s.cursorColour = ⟨255, if code.getLsbD s.cfg.fields.gateR then lvl else 0,
      if code.getLsbD s.cfg.fields.gateG then lvl else 0, if code.getLsbD s.cfg.fields.gateB then lvl else 0⟩ := by
  rw [hlvl, hcode]
  rfl

theorem drawCursor_of_shown (hen : s.cursorEnable = true) (hvis : s.cvis = true) :
    s.drawCursor = { s with screen := paint s.cfg.width s.cursorColour s.screen s.cursorCells } :=
  if_pos (by rw [hen, hvis]; rfl)

theorem drawCursor_of_not_shown (h : ¬(s.cursorEnable = true ∧ s.cvis = true)) : s.drawCursor = s :=
  if_neg fun hshown => h (Bool.and_eq_true_iff.mp hshown)

/-- The screen under a cursor that is enabled and in its ON phase. -/
theorem pixelAt_drawCursor_of_shown (h : s.Inv) (hen : s.cursorEnable = true) (hvis : s.cvis = true) (l x : Nat) :
    Grid.pixelAt s.cfg.width s.drawCursor.screen l x =
      if (l, x) ∈ s.cursorCells then s.cursorColour else Grid.pixelAt s.cfg.width s.screen l x := by
  obtain ⟨hscreen, _, _⟩ := h.wide
  have hclipped : ∀ q ∈ s.cursorCells, q.2 < s.cfg.width := by
    rintro ⟨l', x'⟩ hq
    obtain ⟨_, hx', _⟩ := (mem_cursorCells_iff_covered s l' x').mp hq
    exact hx'
  rw [drawCursor_of_shown hen hvis]
  exact pixelAt_paint s.cursorColour s.cursorCells hscreen hclipped l x

/-! ## The blink timer (45 R273) -/

/-- The period of the cursor's phase, in finalised frames. -/
def State.blinkPeriod (s : State) : Nat := (if s.cvis then s.cursorOn else s.cursorOff) * s.cfg.blinkUnit

theorem blinkTick_of_no_off (hoff : s.cursorOff = 0) : s.blinkTick = { s with cvis := true, ccount := 0 } := if_pos hoff

theorem blinkTick_of_running (hoff : s.cursorOff ≠ 0) (hperiod : s.ccount + 1 < s.blinkPeriod) :
    s.blinkTick = { s with ccount := s.ccount + 1 } :=
  (if_neg hoff).trans (if_neg (Nat.not_le.mpr hperiod))

theorem blinkTick_of_elapsed (hoff : s.cursorOff ≠ 0) (hperiod : s.blinkPeriod ≤ s.ccount + 1) :
    s.blinkTick = { s with cvis := !s.cvis, ccount := 0 } :=
  (if_neg hoff).trans (if_pos hperiod)

end Cursor

end Sys2Proof.Machine

namespace Sys2Proof.Proofs.Cursor

open Sys2Proof.Machine

/-- Settles O37: a shown cursor paints its cells, which are the covered positions, and a cursor that is not shown draws
nothing. -/
theorem cursorPaintsItsSetPixels : Obligations.CursorPaintsItsSetPixels := by
  intro s l x cx cy code lvl cen hinv hcx hcy hcen hcode hlvl covered colour
  have hcovered : (l, x) ∈ s.cursorCells ↔ covered := by
    have hcells := mem_cursorCells_iff_covered s l x
    rwa [cursorX_eq, cursorY_eq, ← hcx, ← hcy] at hcells
  have hcolour : s.cursorColour = colour := cursorColour_of_level hcode hlvl
  have hpixel (hon : cen = true) (hvis : s.cvis = true) :=
    pixelAt_drawCursor_of_shown hinv (hcen.symm.trans hon) hvis l x
  refine ⟨fun hon hvis hin => ?_, fun hnot => ?_, drawCursor_eq s, fun hlayout => ?_, fun hlayout => ?_⟩
  · rw [hpixel hon hvis, if_pos (hcovered.mpr hin), hcolour]
  · by_cases hshown : cen = true ∧ s.cvis = true
    · obtain ⟨hon, hvis⟩ := hshown
      rw [hpixel hon hvis, if_neg fun hin => hnot ⟨hon, hvis, hcovered.mp hin⟩]
    · rw [drawCursor_of_not_shown fun h => hshown (h.imp_left hcen.trans)]
  · rw [hlayout]
    exact ⟨rfl, rfl, rfl⟩
  · rw [hlayout]
    exact ⟨rfl, rfl, rfl, rfl⟩

/-- Settles O36: one case of the tick each for no OFF period, a running period and an elapsed one. -/
theorem blinkTimerTogglesAfterItsPeriod : Obligations.BlinkTimerTogglesAfterItsPeriod := by
  rintro s t on off hon hoff rfl
  rw [← cursorOn_eq] at hon
  rw [← cursorOff_eq] at hoff
  subst hon hoff
  refine ⟨fun hnone => ?_, fun hsome hrunning => ?_, fun hsome helapsed => ?_, blinkTick_eq s, fun hlayout => ?_⟩
  · rw [blinkTick_of_no_off hnone]
    exact ⟨rfl, rfl⟩
  · rw [blinkTick_of_running hsome hrunning]
    exact ⟨rfl, rfl⟩
  · rw [blinkTick_of_elapsed hsome helapsed]
    exact ⟨rfl, rfl⟩
  · rw [hlayout]
    exact ⟨rfl, rfl⟩

end Sys2Proof.Proofs.Cursor

/-! SUPPORT. The sequencer (46_sequencer): which fault an operation raises and when, how a scanline starts and moves on to its
end, what a frame that is handed out holds, and what the host's accesses read and write. -/

namespace Sys2Proof.Machine

section Sequencer

variable {s : State}

/-! ## An operation of the host (46 R290) -/

/-- An operation that raises leaves the block faulted, with the call taken from the list. -/
theorem step_op_faults {o : HostOp} {rest : List HostCall} {f : Fault} (hidle : s.phase = .idle) (hfault : s.fault = none)
    (hcall : s.calls = .op o :: rest)
    (hraise : ({ s with calls := rest } : State).serveOp o = ({ s with calls := rest } : State).raise f) :
    ∃ t, step s = .next t ∧ Faulted { s with calls := rest } t f :=
  ⟨_, (step_op hidle hfault hcall).trans (congrArg _ hraise), raise_faulted f hfault⟩

/-- A faulted block answers an operation with its fault (60 R314). -/
theorem step_op_of_fault {o : HostOp} {rest : List HostCall} {f : Fault} (hidle : s.phase = .idle)
    (hfault : s.fault = some f) (hcall : s.calls = .op o :: rest) :
    step s = .next (({ s with calls := rest } : State).emit (.faulted f)) := by
  simp only [step_idle hidle, idleStep_cons hcall, State.serve, hfault]

/-! ## The start of a scanline (46 R292, 42 R210) -/

section StartLine

variable {ptrA ptrB : Nat} {dA dB : Decoded} {f : Fault}

theorem startLine_of_overrun (h : s.cfg.height ≤ s.y) : s.startLine ptrA ptrB = s.raise (.frameOverrun s.y) := if_pos h

theorem startLine_of_error_a (hy : s.y < s.cfg.height) (hA : s.decodePlane .a ptrA ptrB = .error f) :
    s.startLine ptrA ptrB = s.raise f := by
  simp only [State.startLine, if_neg (not_le.mpr hy), hA]

theorem startLine_of_error_b (hy : s.y < s.cfg.height) (hA : s.decodePlane .a ptrA ptrB = .ok dA)
    (hB : s.decodePlane .b ptrA ptrB = .error f) : s.startLine ptrA ptrB = s.raise f := by
  simp only [State.startLine, if_neg (not_le.mpr hy), hA, hB]

theorem startLine_of_decoded (hy : s.y < s.cfg.height) (hA : s.decodePlane .a ptrA ptrB = .ok dA)
    (hB : s.decodePlane .b ptrA ptrB = .ok dB) : s.startLine ptrA ptrB = s.beginLine dA dB := by
  simp only [State.startLine, if_neg (not_le.mpr hy), hA, hB]

end StartLine

/-- The flag field `MF` is 0 exactly when its bit is clear (30_encoding R97). -/
theorem matteFlagIndex_eq_zero_iff (l : MatteLayout) (c : Payload) :
    matteFlagIndex l c = 0#1 ↔ c.getLsbD l.mf = false := by
  have hbit : ∀ b : BitVec 1, b = 0#1 ↔ b.getLsbD 0 = false := by decide
  rw [hbit, matteFlagIndex, BitVec.getLsbD_extractLsb']
  simp

/-- With `NM` set the tracker starts two queues, of entries 0 to 3 and 4 to 7 (42 R210). -/
theorem matteReset_of_two_mattes (hnm : (s.reg .icm).getLsbD s.cfg.fields.nm = true) :
    s.matteReset = { s with
      mflag := ⟨⟨false, false⟩, ⟨false, false⟩⟩, mptr := ⟨some 0, some 4⟩, mlim := ⟨.four, .eight⟩ } :=
  if_pos hnm

/-- With `NM` clear the tracker starts one queue of all entries, for the plane that entry 0's `MF` names (42 R210). -/
theorem matteReset_of_one_matte {mf : Bool} (hnm : (s.reg .icm).getLsbD s.cfg.fields.nm = false)
    (hmf : (s.matteAt 0).getLsbD s.cfg.enc.matte.mf = mf) :
    s.matteReset = { s with
      mflag := ⟨⟨false, false⟩, ⟨false, false⟩⟩
      mptr := if mf then ⟨none, some 0⟩ else ⟨some 0, none⟩
      mlim := ⟨.eight, .eight⟩ } := by
  have hone : icmNm s.cfg.fields s.regs.icm = false := hnm
  simp only [State.matteReset, hone, matteFlagIndex_eq_zero_iff, hmf]
  cases mf <;> rfl

theorem matteReset_mflag (s : State) (p : Plane) : s.matteReset.mflag.get p = ⟨false, false⟩ := by
  cases hnm : (s.reg .icm).getLsbD s.cfg.fields.nm with
  | true => rw [matteReset_of_two_mattes hnm]; cases p <;> rfl
  | false => rw [matteReset_of_one_matte hnm rfl]; cases p <;> rfl

/-! ## A scanline's steps (42 R211, 46 R292) -/

/-- An unfaulted scanline whose next step, in phase `ph`, is plane `p`'s at position `k`. -/
structure State.LineAt (s : State) (ph : Phase) (p : Plane) (k : Nat) : Prop where
  phase : s.phase = ph
  plane : s.line.plane = p
  position : s.line.k = k
  noFault : s.fault = none

/-- The phase after plane `p`'s tracker step: plane B's tracker follows plane A's, and the pixels follow plane B's (42 R211). -/
def phaseAfterTracker : Plane → Phase
  | .a => .matte
  | .b => .pixels

/-- A tracker step keeps the line counter and moves on to plane B, unless a reserved matte opcode faulted. -/
theorem step_tracker {p : Plane} {k : Nat} (h : s.LineAt .matte p k) :
    ∃ t, step s = .next t ∧ t.y = s.y ∧
      (t.LineAt (phaseAfterTracker p) .b k ∨
        (t.phase = .idle ∧ t.fault ≠ none ∧ s.cfg.matteReserved ≠ .log)) := by
  obtain ⟨hphase, hplane, hk, hfault⟩ := h
  obtain ⟨u, heffect, hstep⟩ := matteStep_cases s
  have hline : u.line = s.line := by rw [heffect.fields]
  have hy : u.y = s.y := by rw [heffect.fields]
  refine ⟨u.afterMatte, (step_matte hphase).trans hstep, ?_⟩
  by_cases hu : u.fault = none
  · cases p with
    | a => rw [afterMatte_planeA hu (hline ▸ hplane)]; exact ⟨hy, .inl ⟨rfl, rfl, hline ▸ hk, hu⟩⟩
    | b => rw [afterMatte_planeB hu (hline ▸ hplane)]; exact ⟨hy, .inl ⟨rfl, hline ▸ hplane, hline ▸ hk, hu⟩⟩
  · rw [afterMatte_of_fault hu]
    exact ⟨hy, .inr ⟨heffect.quiet hfault hu, hu, fun hlog => hu ((heffect.noFault hlog).trans hfault)⟩⟩

/-- The pixels of a position are followed by plane A's tracker at the next one, or by the end of the line. -/
theorem step_position {k : Nat} (h : s.LineAt .pixels .b k) :
    ∃ t, step s = .next t ∧
      ((k + 1 < s.cfg.width / 2 ∧ t.y = s.y ∧ t.LineAt .matte .a (k + 1)) ∨
        (t.phase = .idle ∧ t.y = s.y + 1 ∧ t.fault = none)) := by
  obtain ⟨hphase, -, rfl, hfault⟩ := h
  obtain ⟨t, ht, hfields, hcase⟩ := pixelStep_cases s
  have hfault' : t.fault = none := by rw [hfields]; exact hfault
  refine ⟨t, (step_pixels hphase).trans (congrArg _ ht), ?_⟩
  rcases hcase with ⟨hnext, hline, hmatte, hy, -⟩ | ⟨-, -, hidle, hy, -⟩
  · exact .inl ⟨hnext, hy, hmatte, by rw [hline], by rw [hline], hfault'⟩
  · exact .inr ⟨hidle, hy, hfault'⟩

/-- Within `n` steps the block is idle, with the line counter incremented unless a reserved matte opcode faulted. -/
def State.CompletesLineWithin (n : Nat) (s : State) : Prop :=
  ∃ (k : Nat) (t : State), k ≤ n ∧ Sys2Proof.core.run k s = .next t ∧
    t.phase = .idle ∧ (t.fault = none → t.y = s.y + 1) ∧ (s.cfg.matteReserved = .log → t.fault = none)

/-- A step that keeps the line counter adds one to the steps that its successor needs. -/
theorem State.CompletesLineWithin.of_step {n : Nat} {t : State} (h : t.CompletesLineWithin n) (ht : step s = .next t)
    (hy : t.y = s.y) : s.CompletesLineWithin (n + 1) := by
  obtain ⟨k, u, hk, hrun, hidle, hcount, hlog⟩ := h
  rw [hy] at hcount
  rw [step_cfg ht] at hlog
  exact ⟨k + 1, u, by omega, (core_run_next ht k).trans hrun, hidle, hcount, hlog⟩

/-- A plane's tracker step adds one to the steps that plane B's following step needs. -/
theorem completesLineWithin_of_tracker {n k : Nat} {p : Plane} (h : s.LineAt .matte p k)
    (hnext : ∀ t : State, t.cfg = s.cfg → t.LineAt (phaseAfterTracker p) .b k →
      t.CompletesLineWithin n) : s.CompletesLineWithin (n + 1) := by
  obtain ⟨t, ht, hy, hturn | ⟨hidle, hfault, hpolicy⟩⟩ := step_tracker h
  · exact (hnext t (step_cfg ht) hturn).of_step ht hy
  · exact ⟨1, t, by omega, core_run_next ht 0, hidle, fun hnone => absurd hnone hfault, fun hlog => absurd hlog hpolicy⟩

/-- The last position's pixels end the line; before it they add one to the steps that the next position needs. -/
theorem completesLineWithin_of_position {n k : Nat} (h : s.LineAt .pixels .b k)
    (hnext : ∀ t : State, t.cfg = s.cfg → k + 1 < s.cfg.width / 2 → t.LineAt .matte .a (k + 1) →
      t.CompletesLineWithin n) : s.CompletesLineWithin (n + 1) := by
  obtain ⟨t, ht, ⟨hlt, hy, hturn⟩ | ⟨hidle, hy, hfault⟩⟩ := step_position h
  · exact (hnext t (step_cfg ht) hlt hturn).of_step ht hy
  · exact ⟨1, t, by omega, core_run_next ht 0, hidle, fun _ => hy, fun _ => hfault⟩

/-- A scanline with at most `n` positions left completes within three steps for each of them. -/
theorem line_completes (n : Nat) : ∀ {s : State} {k : Nat}, s.LineAt .matte .a k → k < s.cfg.width / 2 →
    s.cfg.width / 2 - k ≤ n → s.CompletesLineWithin (3 * n) := by
  induction n with
  | zero => intro s k _ hlt hleft; omega
  | succ n ih =>
    intro s k h _ hleft
    refine completesLineWithin_of_tracker h fun t ht hb => ?_
    refine completesLineWithin_of_tracker hb fun u hu hpixels => ?_
    refine completesLineWithin_of_position hpixels fun v hv hlt hnext => ?_
    rw [hu, ht] at hv hlt
    exact ih hnext (by rw [hv]; exact hlt) (by rw [hv]; omega)

/-! ## The frame that is handed out (46 R294, R295) -/

/-- A line of a frame is the buffer's line. -/
theorem lineAt_frame (w : Nat) {h l : Nat} (g : Grid) (hl : l < h) :
    Grid.lineAt w (Grid.frame w h g) l = Grid.lineAt w g l := by
  simp [Grid.lineAt, Grid.frame, padGet, hl]

theorem pixelAt_frame (w : Nat) {h l : Nat} (g : Grid) (x : Nat) (hl : l < h) :
    Grid.pixelAt w (Grid.frame w h g) l x = Grid.pixelAt w g l x := by
  rw [Grid.pixelAt, lineAt_frame w g hl, Grid.pixelAt]

@[simp] theorem length_frame (w h : Nat) (g : Grid) : (Grid.frame w h g).length = h := by simp [Grid.frame]

/-- A pixel of a line of full width is the buffer's pixel at some column of it. -/
theorem exists_pixelAt_of_mem {w : Nat} {g : Grid} (hg : GridWide w g) {l : Nat} {px : Px} (h : px ∈ Grid.lineAt w g l) :
    ∃ x < w, Grid.pixelAt w g l x = px := by
  obtain ⟨x, hx, rfl⟩ := List.mem_iff_getElem.mp h
  exact ⟨x, lineAt_length hg l ▸ hx, by simp [Grid.pixelAt, padGet, hx]⟩

/-- The lines of a frame have full width, and are opaque where the buffer is. -/
theorem grid_frame_opaque {w h : Nat} {g : Grid} (hg : GridWide w g)
    (hopaque : ∀ l x : Nat, l < h → x < w → (Grid.pixelAt w g l x).a = 255) :
    ∀ line ∈ Grid.frame w h g, line.length = w ∧ ∀ px ∈ line, px.a = 255 := by
  intro line hline
  obtain ⟨l, hl, rfl⟩ := List.mem_map.mp hline
  refine ⟨lineAt_length hg l, fun px hpx => ?_⟩
  obtain ⟨x, hx, rfl⟩ := exists_pixelAt_of_mem hg hpx
  exact hopaque l x (List.mem_range.mp hl) hx

/-- The host's pending calls play no part in drawing the cursor. -/
theorem drawCursor_calls (s : State) (cs : List HostCall) :
    ({ s with calls := cs } : State).drawCursor = { s.drawCursor with calls := cs } := by
  by_cases h : s.cursorEnable = true ∧ s.cvis = true
  · obtain ⟨hen, hvis⟩ := h
    rw [drawCursor_of_shown hen hvis]
    exact drawCursor_of_shown (s := { s with calls := cs }) hen hvis
  · rw [drawCursor_of_not_shown h]
    exact drawCursor_of_not_shown (s := { s with calls := cs }) h

/-- Neither the screen nor the host's pending calls play a part in the tick of the blink timer. -/
theorem blinkTick_screen_calls (s : State) (g : Grid) (cs : List HostCall) :
    ({ s with screen := g, calls := cs } : State).blinkTick =
      { s with screen := g, calls := cs, cvis := s.blinkTick.cvis, ccount := s.blinkTick.ccount } := by
  by_cases hoff : s.cursorOff = 0
  · rw [blinkTick_of_no_off hoff]
    exact blinkTick_of_no_off (s := { s with screen := g, calls := cs }) hoff
  · by_cases hperiod : s.blinkPeriod ≤ s.ccount + 1
    · rw [blinkTick_of_elapsed hoff hperiod]
      exact blinkTick_of_elapsed (s := { s with screen := g, calls := cs }) hoff hperiod
    · rw [blinkTick_of_running hoff (not_le.mp hperiod)]
      exact blinkTick_of_running (s := { s with screen := g, calls := cs }) hoff (not_le.mp hperiod)

theorem finalize_of_incomplete (hy : s.y ≠ s.cfg.height) : s.finalize = s.raise (.frameIncomplete s.y) := if_pos hy

theorem finalize_of_double_cursor (hy : s.y = s.cfg.height) (hen : s.cursorEnable = true)
    (hdouble : s.cursorDouble = true) : s.finalize = s.raise (.doubleResCursor s.regs.curctl) :=
  (if_neg (not_not.mpr hy)).trans (if_pos (by rw [hen, hdouble]; rfl))

/-- Finalising a complete frame draws the cursor, ticks the blink timer, hands out the lines of the screen, and goes back to
line 0; the pending calls play no part. -/
theorem finalize_of_complete (cs : List HostCall) (hy : s.y = s.cfg.height)
    (hcursor : ¬(s.cursorEnable = true ∧ s.cursorDouble = true)) :
    ({ s with calls := cs } : State).finalize = { s with
      screen := s.drawCursor.screen
      cvis := s.blinkTick.cvis
      ccount := s.blinkTick.ccount
      y := 0
      calls := cs
      outputs := s.outputs ++ [.frameCompleted s.drawCursor.frame, .finalized s.drawCursor.frame] } := by
  have hframe : s.drawCursor.frame = Grid.frame s.cfg.width s.cfg.height s.drawCursor.screen := by
    rw [State.frame, drawCursor_cfg]
  have htick : ({ s with calls := cs } : State).drawCursor.blinkTick =
      { s with
        screen := s.drawCursor.screen, calls := cs, cvis := s.blinkTick.cvis, ccount := s.blinkTick.ccount } := by
    rw [drawCursor_calls, drawCursor_eq]
    exact blinkTick_screen_calls s s.drawCursor.screen cs
  refine (if_neg (not_not.mpr hy)).trans ((if_neg fun h => hcursor (Bool.and_eq_true_iff.mp h)).trans ?_)
  rw [htick, hframe]
  rfl

/-- At the end of a frame every line of it has been produced, so the frame is opaque. -/
theorem State.Inv.frame_opaque (h : s.Inv) (hy : s.y = s.cfg.height) :
    ∀ line ∈ s.frame, line.length = s.cfg.width ∧ ∀ px ∈ line, px.a = 255 := by
  obtain ⟨hscreen, -, -⟩ := h.wide
  exact grid_frame_opaque hscreen fun l x hl hx => h.screenOpaque l x hx (.inl (by omega))

/-! ## Host accesses (46 R296 to R298) -/

/-- A write of display parameters with a valid class stores their decoding (46 R297). -/
theorem hostWrite_dp_of_decoded {p : Plane} {v : Word} {w : DisplayParams} (h : decodeDp (v.setWidth 24) = some w) :
    s.hostWrite (.dp p) v = (s.setDp p w).emit .done := by
  simp only [State.hostWrite, State.loadDisplayParams, h]

/-- A write of display parameters with the reserved class raises (46 R297, 60 R311). -/
theorem hostWrite_dp_of_reserved {p : Plane} {v : Word} (h : decodeDp (v.setWidth 24) = none) :
    s.hostWrite (.dp p) v = s.raise (.reservedBpp (.hostWrite p v)) := by
  simp only [State.hostWrite, State.loadDisplayParams, h]

/-- The class field of a written value lies in the 24 bits that are stored. -/
theorem dpClass_setWidth (v : Word) : (v.setWidth 24).toNat / 256 % 4 = v.toNat / 256 % 4 := by
  rw [BitVec.toNat_setWidth]
  omega

/-- A table access answers what it does at an index within the table, and raises at one outside (46 R298). -/
theorem step_tableAccess {o : HostOp} {rest : List HostCall} {table : Table} {size i : Nat} {go : i < size → State}
    (hidle : s.phase = .idle) (hfault : s.fault = none) (hcall : s.calls = .op o :: rest)
    (hserve : ({ s with calls := rest } : State).serveOp o =
      ({ s with calls := rest } : State).withIndex table size i go) :
    (∀ h : i < size, step s = .next (go h)) ∧
      (size ≤ i → ∃ t, step s = .next t ∧ Faulted { s with calls := rest } t (.indexOutOfRange table i)) := by
  refine ⟨fun h => ?_, fun h => step_op_faults hidle hfault hcall (hserve.trans (withIndex_neg go h))⟩
  rw [step_op hidle hfault hcall, hserve, withIndex_pos go h]

end Sequencer

end Sys2Proof.Machine

namespace Sys2Proof.Proofs.Sequencer

open Sys2Proof.Machine

/-- Settles O48: a position takes two tracker steps and the step of its pixels, by induction on the positions left. -/
theorem scanlineCompletes : Obligations.ScanlineCompletes :=
  fun _ hmatte hplane hfault hlt => line_completes _ ⟨hmatte, hplane, rfl, hfault⟩ hlt le_rfl

/-- Settles O49: an answer of two outputs is that of a complete frame, and the cursor drawn on it keeps it opaque. -/
theorem finalizedFrameIsOpaque : Obligations.FinalizedFrameIsOpaque := by
  intro s t rest frame hinv hidle hcall ht houtputs
  cases hfault : s.fault with
  | some f =>
    cases (step_op_of_fault hidle hfault hcall).symm.trans ht
    simp at houtputs
  | none =>
    cases (step_op hidle hfault hcall).symm.trans ht
    rcases finalize_cases { s with calls := rest } with ⟨f, hraise⟩ | ⟨hy, hcursor, -⟩
    · simp [State.serveOp, hraise] at houtputs
    · replace hcursor : ¬(s.cursorEnable = true ∧ s.cursorDouble = true) := by
        rw [← Bool.and_eq_true_iff]
        exact ne_true_of_eq_false hcursor
      obtain rfl : s.drawCursor.frame = frame := by
        simpa [State.serveOp, finalize_of_complete (s := s) rest hy hcursor] using houtputs
      have hframe := (drawCursor_inv hinv hidle).frame_opaque (by rw [drawCursor_eq]; exact hy)
      rw [drawCursor_cfg] at hframe
      exact ⟨by rw [State.frame, length_frame, drawCursor_cfg], hframe⟩

/-- Settles O31: the line begins with the tracker reset, whose queues follow `NM` and entry 0's `MF`. -/
theorem advanceScanlineStartsTheLine : Obligations.AdvanceScanlineStartsTheLine := by
  intro s ptrA ptrB rest dA dB hidle hfault hcall hy hA hB
  have hstep : step s = .next (({ s with calls := rest } : State).beginLine dA dB) :=
    (step_op hidle hfault hcall).trans (congrArg _ (startLine_of_decoded (s := { s with calls := rest }) hy
      ((decodePlane_calls s rest .a ptrA ptrB).trans hA) ((decodePlane_calls s rest .b ptrA ptrB).trans hB)))
  rw [beginLine_eq] at hstep
  refine ⟨_, hstep, rfl, rfl, matteReset_mflag _, fun hnm => ?_, fun hnm hmf => ?_, fun hnm hmf => ?_,
    fun l => padGet_padSet _ _ _ _ _, rfl⟩ <;> dsimp only
  · rw [matteReset_of_two_mattes (s := { s with calls := rest }) hnm]
    exact ⟨rfl, rfl⟩
  · rw [matteReset_of_one_matte (s := { s with calls := rest }) hnm hmf]
    exact ⟨rfl, rfl⟩
  · rw [matteReset_of_one_matte (s := { s with calls := rest }) hnm hmf]
    exact ⟨rfl, rfl⟩

/-- Settles O32: the line check, then what each decode answers, which the checks of its plane decide. -/
theorem advanceScanlineFaults : Obligations.AdvanceScanlineFaults := by
  intro s ptrA ptrB rest hidle hfault hcall
  have hfaultA (f : Fault) (hy : s.y < s.cfg.height) (hA : s.decodePlane .a ptrA ptrB = .error f) :
      ∃ t, step s = .next t ∧ Faulted { s with calls := rest } t f :=
    step_op_faults hidle hfault hcall (startLine_of_error_a (s := { s with calls := rest }) hy
      ((decodePlane_calls s rest .a ptrA ptrB).trans hA))
  have hfaultB (dA : Decoded) (f : Fault) (hy : s.y < s.cfg.height) (hA : s.decodePlane .a ptrA ptrB = .ok dA)
      (hB : s.decodePlane .b ptrA ptrB = .error f) :
      ∃ t, step s = .next t ∧ Faulted { s with calls := rest } t f :=
    step_op_faults hidle hfault hcall (startLine_of_error_b (s := { s with calls := rest }) hy
      ((decodePlane_calls s rest .a ptrA ptrB).trans hA) ((decodePlane_calls s rest .b ptrA ptrB).trans hB))
  have hdecodesA (hB : s.codingMethod .b ≠ .rgb555) (hA : s.codingMethod .a ≠ .off) : s.Decodes .a :=
    ⟨fun h => hB h.2, hA⟩
  have hdecodesB (hB : s.codingMethod .b ≠ .off) : s.Decodes .b := ⟨by simp, hB⟩
  refine ⟨fun hy => step_op_faults hidle hfault hcall (startLine_of_overrun (s := { s with calls := rest }) hy),
    hfaultA, hfaultB, fun hy hB hA => ?_, fun hy hB hA ht => ?_, fun hy hB hA ht => ?_, fun dA hy hA hB ht => ?_,
    fun dA hy hA hB ht => ?_⟩
  · exact hfaultA _ hy (decodePlane_beside_rgb555 ⟨rfl, hB⟩ hA)
  · exact hfaultA _ hy ((hdecodesA hB hA).mosaic ht)
  · exact hfaultA _ hy ((hdecodesA hB (by simp [hA])).runLength_nonClut ht (by simp [hA]))
  · exact hfaultB dA _ hy hA ((hdecodesB hB).mosaic ht)
  · have hmethod : s.codingMethod .b ∈ [CodingMethod.dyuv, .rgb555] := by simpa using hB
    exact hfaultB dA _ hy hA ((hdecodesB fun hoff => by simp [hoff] at hmethod).runLength_nonClut ht hmethod)

/-- Settles O34: the two ways the pixels of a position end, which exclude each other. -/
theorem positionsFollowToTheEndOfTheLine : Obligations.PositionsFollowToTheEndOfTheLine := by
  intro s hpixels
  obtain ⟨t, ht, -, hcase⟩ := pixelStep_cases s
  refine ⟨t, (step_pixels hpixels).trans (congrArg _ ht), fun hnext => ?_, fun hlast => ?_⟩
  · rcases hcase with ⟨-, hposition⟩ | ⟨hlast, -⟩
    · exact hposition
    · omega
  · rcases hcase with ⟨hnext, -⟩ | ⟨-, -, hend⟩
    · omega
    · exact hend

/-- Settles O35: the line check, the cursor check, and the frame of a complete screen. -/
theorem finalizeFrameHandsOutTheScreen : Obligations.FinalizeFrameHandsOutTheScreen := by
  rintro s rest cen cres hidle hfault hcall rfl rfl
  refine ⟨fun hy => ?_, fun hy hen hdouble => ?_, fun hy hcursor => ?_, fun hlayout => ?_⟩
  · exact step_op_faults hidle hfault hcall (finalize_of_incomplete (s := { s with calls := rest }) hy)
  · exact step_op_faults hidle hfault hcall (finalize_of_double_cursor (s := { s with calls := rest }) hy hen hdouble)
  · refine ⟨_, _, (step_op hidle hfault hcall).trans (congrArg _ (finalize_of_complete rest hy hcursor)), ?_,
      fun l x hl => ?_, rfl⟩ <;> rw [State.frame, drawCursor_cfg]
    · exact length_frame _ _ _
    · exact pixelAt_frame _ _ x hl
  · rw [hlayout]
    exact ⟨rfl, rfl⟩

/-- Settles O38: reads and writes of a control register, and the two cases of the class that a write of `DP_p` carries. -/
theorem hostRegisterAccess : Obligations.HostRegisterAccess := by
  intro s x p v rest hidle hfault
  refine ⟨fun hcall => step_op hidle hfault hcall, fun hcall => step_op hidle hfault hcall, fun hcall => ?_,
    fun hcall hclass => ?_, fun hcall hclass => ?_⟩
  · exact ⟨_, step_op hidle hfault hcall, reg_setReg_same { s with calls := rest } x _,
      fun z hz => reg_setReg_other { s with calls := rest } _ hz, rfl⟩
  · rw [← dpClass_setWidth] at hclass
    have hdecode := decodeDp_of_valid hclass
    refine ⟨_, (step_op hidle hfault hcall).trans (congrArg _ (hostWrite_dp_of_decoded hdecode)), ?_⟩
    simp only [emit_dp, setDp_dp, AB.get_set_same, AB.get_set_other _ _ (otherPlane_ne p), true_and]
    exact ⟨hdecode, rfl⟩
  · rw [← dpClass_setWidth] at hclass
    exact step_op_faults hidle hfault hcall (hostWrite_dp_of_reserved ((decodeDp_eq_none_iff _).mpr hclass))

/-- Settles O39: each access is behind its table's index check, and a write changes the entry of the index alone. -/
theorem hostTableAccess : Obligations.HostTableAccess := by
  intro s i v rest hidle hfault
  refine ⟨fun hcall => step_tableAccess hidle hfault hcall rfl, fun hcall => ?_,
    fun hcall => step_tableAccess hidle hfault hcall rfl, fun hcall => ?_,
    fun hcall => step_tableAccess hidle hfault hcall rfl, fun hcall => ?_⟩ <;>
    refine (step_tableAccess hidle hfault hcall rfl).imp_left fun hinside h => ⟨_, hinside h, fun e => ?_, rfl⟩
  · exact clutAt_setClut { s with calls := rest } _ e _
  · exact matteAt_setMatte { s with calls := rest } ⟨i, h⟩ e _
  · exact curpatAt_setCurpat { s with calls := rest } ⟨i, h⟩ e _

end Sys2Proof.Proofs.Sequencer

/-! SUPPORT. The exceptions, Reset and the channels' rights (60_exceptions, 70_reset_and_hazards): that a fault record outlives
every step, where the alignment check can fail, which bits Reset clears, and which parts of the state each channel may load. -/

namespace Sys2Proof.Machine

section Exceptions

variable {s t : State} {f : Fault}

/-! ## A fault record through each part of a step (60 R313, R314, 70 R355) -/

theorem raise_keeps_fault (g : Fault) (h : s.fault = some f) : (s.raise g).fault = some f := by rw [raise_kept g h]; exact h

theorem DcpEffect.fault_kept (he : DcpEffect s t) (h : s.fault = some f) : t.fault = some f :=
  (he.faultKept (by simp [h])).trans h

theorem MatteEffect.fault_kept (he : MatteEffect s t) (h : s.fault = some f) : t.fault = some f :=
  (he.faultKept (by simp [h])).trans h

/-- A faulted block serves no operation, Reset included, and the host's inputs do not reach the record. -/
theorem serve_keeps_fault (c : HostCall) (h : s.fault = some f) : (s.serve c).fault = some f := by
  cases c with
  | op o => simp only [State.serve, h, emit_fault]
  | writeRegion a v => exact h
  | setIntDisable ch v => exact h

theorem idleStep_keeps_fault (h : s.fault = some f) : s.idleStep.fault = some f := by
  cases hc : s.calls with
  | nil => rwa [idleStep_nil hc]
  | cons c rest =>
    rw [idleStep_cons hc]
    exact serve_keeps_fault c h

theorem runStep_keeps_fault (ht : s.runStep = .next t) (h : s.fault = some f) : t.fault = some f := by
  rcases runStep_cases s with ⟨_, e⟩ | ⟨_, _, e⟩ | ⟨_, _, u, e, heffect⟩ <;> cases e.symm.trans ht
  · exact h
  · exact raise_keeps_fault _ h
  · exact heffect.fault_kept h

theorem matteStep_keeps_fault (ht : s.matteStep = .next t) (h : s.fault = some f) : t.fault = some f := by
  obtain ⟨u, heffect, e⟩ := matteStep_cases s
  cases e.symm.trans ht
  have hu := heffect.fault_kept h
  rwa [afterMatte_of_fault (by simp [hu])]

theorem pixelStep_keeps_fault (h : s.fault = some f) : s.pixelStep.fault = some f := by
  obtain ⟨u, hu, hfields, _⟩ := pixelStep_cases s
  rw [hu, hfields]
  exact h

/-! ## The alignment check (40 R111, 60 R312) -/

theorem runStep_of_misaligned (hbudget : s.run.count < s.run.budget) (hpc : s.run.pc.toNat % 4 ≠ 0) :
    s.runStep = .next (s.raise (.misalignedProgram s.run.ch s.run.pc)) := by
  rw [State.runStep, if_neg (by omega), if_pos hpc]

/-- The address after an aligned word is aligned: the region size is a power of 2, so it divides 4 or is a multiple of it. -/
theorem Config.next_word_aligned (c : Config) {pc : Nat} (h : pc % 4 = 0) : (pc + 4) % c.regionSize % 4 = 0 := by
  have hnext : (pc + 4) % 4 = 0 := by omega
  have hcases : c.regionSize ∣ 4 ∨ 4 ∣ c.regionSize :=
    (le_total c.regionLog2.val 2).imp (Nat.pow_dvd_pow 2) (Nat.pow_dvd_pow 2)
  rcases hcases with hsmall | hlarge
  · rw [Nat.mod_eq_zero_of_dvd (hsmall.trans (Nat.dvd_of_mod_eq_zero hnext))]
  · rw [Nat.mod_mod_of_dvd _ hlarge, hnext]

/-! ## The fields that Reset clears (70 R340 to R342) -/

/-- Clearing a field clears its bits and keeps the others. -/
theorem getLsbD_clearField (lo n : Nat) (d : Payload) {i : Nat} (hi : i < 24) :
    (clearField lo n d).getLsbD i = if lo ≤ i ∧ i < lo + n then false else d.getLsbD i := by
  have hmask : ((BitVec.allOnes n).setWidth 24 <<< lo).getLsbD i = decide (lo ≤ i ∧ i < lo + n) := by
    simp only [BitVec.getLsbD_shiftLeft, BitVec.getLsbD_setWidth, BitVec.getLsbD_allOnes]
    grind
  rw [clearField, BitVec.getLsbD_and, BitVec.getLsbD_not, hmask]
  by_cases hin : lo ≤ i ∧ i < lo + n <;> simp [hin, hi]

/-- A nibble whose bits are all clear is 0; bits past the register's 24 are clear anyway. -/
theorem nibble_eq_zero {lo : Nat} {d : Payload} (h : ∀ i, i < 24 → lo ≤ i → i < lo + 4 → d.getLsbD i = false) :
    d.extractLsb' lo 4 = 0#4 := by
  refine BitVec.eq_of_getLsbD_eq fun j hj => ?_
  rw [BitVec.getLsbD_extractLsb', BitVec.getLsbD_zero]
  by_cases hlt : lo + j < 24
  · rw [h _ hlt (by omega) (by omega), Bool.and_false]
  · rw [BitVec.getLsbD_of_ge d _ (by omega), Bool.and_false]

/-- The bits of `ICM` after Reset: those of `CM_A` and `CM_B` are clear. -/
theorem doReset_icm_getLsbD (s : State) {i : Nat} (hi : i < 24) :
    (s.doReset.reg .icm).getLsbD i =
      if (s.cfg.fields.cmA ≤ i ∧ i < s.cfg.fields.cmA + 4) ∨ (s.cfg.fields.cmB ≤ i ∧ i < s.cfg.fields.cmB + 4) then false
      else (s.reg .icm).getLsbD i := by
  show (clearField _ 4 (clearField _ 4 (s.reg .icm))).getLsbD i = _
  rw [getLsbD_clearField _ _ _ hi, getLsbD_clearField _ _ _ hi, ← ite_or, if_congr or_comm rfl rfl]

/-- The bits of `CURCTL` after Reset: the one of `CEN` is clear. -/
theorem doReset_curctl_getLsbD (s : State) {i : Nat} (hi : i < 24) :
    (s.doReset.reg .curctl).getLsbD i = if i = s.cfg.cursor.cen then false else (s.reg .curctl).getLsbD i := by
  have hbit : s.cfg.cursor.cen ≤ i ∧ i < s.cfg.cursor.cen + 1 ↔ i = s.cfg.cursor.cen := by omega
  show (clearField _ 1 (s.reg .curctl)).getLsbD i = _
  rw [getLsbD_clearField _ _ _ hi, if_congr hbit rfl rfl]

/-- Reset leaves every register but `ICM` and `CURCTL` (70 R346). -/
theorem doReset_reg_other (s : State) {z : Reg} (hicm : z ≠ .icm) (hcurctl : z ≠ .curctl) :
    s.doReset.reg z = s.reg z := by
  cases z with
  | icm => exact absurd rfl hicm
  | curctl => exact absurd rfl hcurctl
  | tc | po | clutBank | tcol | mcol | dyuv | curpos | backdrop | mosaic | icf => rfl

/-- Code 0 is OFF for both planes, so Reset turns them off whatever the layout (70 R341, 10_state R23). -/
theorem doReset_codingMethod (s : State) (p : Plane) : s.doReset.codingMethod p = .off := by
  have hclear {i : Nat} (hi : i < 24) (hin : (s.cfg.fields.cmA ≤ i ∧ i < s.cfg.fields.cmA + 4) ∨
      (s.cfg.fields.cmB ≤ i ∧ i < s.cfg.fields.cmB + 4)) : (s.doReset.reg .icm).getLsbD i = false :=
    (doReset_icm_getLsbD s hi).trans (if_pos hin)
  cases p with
  | a => exact congrArg table0 (nibble_eq_zero fun _ hi hlo hhi => hclear hi (.inl ⟨hlo, hhi⟩))
  | b => exact congrArg table1 (nibble_eq_zero fun _ hi hlo hhi => hclear hi (.inr ⟨hlo, hhi⟩))

end Exceptions

/-! ## What each channel may change (60 R325, 40 R112) -/

/-- The class of channels that may load a register (40 R122 to R140). -/
def Reg.rights : Reg → Rights
  | .clutBank => .both
  | .icm | .tc | .po | .curpos | .curctl | .backdrop => .aOnly
  | .tcol .a | .mcol .a | .dyuv .a | .mosaic .a | .icf .a => .aOnly
  | .tcol .b | .mcol .b | .dyuv .b | .mosaic .b | .icf .b => .bOnly

/-- What the channel of `s` may not load is in `t` as it was: the registers and pattern rows it has no right to, the low half
of the colour table on channel B, and the other plane's display parameters. -/
structure KeepsRights (s t : State) : Prop where
  regs : ∀ x : Reg, permitted s.cfg x.rights s.run.ch = false → t.reg x = s.reg x
  curpat : permitted s.cfg .aOnly s.run.ch = false → t.curpat = s.curpat
  lowClut : s.run.ch = .b → ∀ e : Byte, e.toNat < 128 → t.clutAt e = s.clutAt e
  dp : t.dp.get (otherPlane s.run.ch.plane) = s.dp.get (otherPlane s.run.ch.plane)

section Rights

variable {s t : State}

/-- A change of the matte table, the run, the log and the records alone. -/
theorem keepsRights_of_untouched (ht : t = { s with
    matte := t.matte
    fault := t.fault
    log := t.log
    run := t.run
    phase := t.phase
    outputs := t.outputs }) : KeepsRights s t := by
  rw [ht]
  exact ⟨fun _ _ => rfl, fun _ => rfl, fun _ _ _ => rfl, rfl⟩

/-- A write of a register that the channel may load, with or without log entries. -/
theorem keepsRights_of_writtenReg {x : Reg} {d : Payload} (hx : permitted s.cfg x.rights s.run.ch = true)
    (ht : t = { s with regs := s.regs.set x d, log := t.log }) : KeepsRights s t := by
  rw [ht]
  refine ⟨fun z hz => ?_, fun _ => rfl, fun _ _ _ => rfl, rfl⟩
  have hne : z ≠ x := by
    rintro rfl
    simp [hx] at hz
  exact Regs.get_set_other s.regs d hne

/-- A guarded load keeps to the channel's rights when its effect does where the load is permitted. -/
theorem keepsRights_guardedLoad {r : Rights} {l : RegLoad} {eff : State → State}
    (h : permitted s.cfg r s.run.ch = true → KeepsRights s (eff s)) : KeepsRights s (s.guardedLoad r l eff) := by
  rcases guardedLoad_cases s r l eff with ⟨hmay, e⟩ | ⟨_, e⟩ <;> rw [e]
  · exact h hmay
  · exact keepsRights_of_untouched rfl

/-- A register load that asks for the rights of the register it writes. -/
theorem keepsRights_loadReg {r : Rights} (l : RegLoad) {x : Reg} (d : Payload) (hx : x.rights = r) :
    KeepsRights s (s.loadReg r l x d) :=
  keepsRights_guardedLoad fun hmay => keepsRights_of_writtenReg (hx ▸ hmay) rfl

/-- LOAD_ICM writes `ICM` under its rights, and logs (40 R122, R143). -/
theorem keepsRights_loadIcm (d : Payload) : ∃ t, execLoadIcm d s = .next t ∧ KeepsRights s t :=
  ⟨_, rfl, keepsRights_guardedLoad fun hmay => keepsRights_of_writtenReg (x := .icm) hmay rfl⟩

/-- LOAD_CURPAT writes a pattern row, which channel A alone may do (40 R134). -/
theorem keepsRights_loadCurpat (d : Payload) : ∃ t, execLoadCurpat d s = .next t ∧ KeepsRights s t := by
  refine ⟨_, rfl, keepsRights_guardedLoad fun hmay => ⟨fun _ _ => rfl, fun hnot => ?_, fun _ _ _ => rfl, rfl⟩⟩
  simp [hmay] at hnot

/-- LOAD_CLUT on channel B writes in banks 2 and 3 only, whose entries are 128 to 255 (40 R121). -/
theorem keepsRights_loadClut (n : BitVec 6) (d : Payload) : ∃ t, execLoadClut n d s = .next t ∧ KeepsRights s t := by
  refine ⟨_, exec_loadClut n d, ?_⟩
  split
  · next hmay =>
    refine ⟨fun _ _ => rfl, fun _ => rfl, fun hch e he => ?_, rfl⟩
    have hbank : 2 ≤ (clutBankOf s.cfg.fields (s.reg .clutBank)).toNat := hmay.resolve_left (by simp [hch])
    rw [clutAt_setClut, toNat_append_eq, if_neg (by omega)]
  · exact keepsRights_of_untouched rfl

/-- LOAD_DP writes the display parameters of the channel's own plane, or faults (40 R120). -/
theorem keepsRights_loadDp (x : BitVec 4) (d : Payload) : ∃ t, execLoadDp x d s = .next t ∧ KeepsRights s t := by
  cases hdecode : decodeDp d with
  | some v =>
    exact ⟨_, exec_loadDp_valid x hdecode,
      fun _ _ => rfl, fun _ => rfl, fun _ _ _ => rfl, AB.get_set_other s.dp v (otherPlane_ne s.run.ch.plane)⟩
  | none => exact ⟨_, exec_loadDp_reserved x ((decodeDp_eq_none_iff d).mp hdecode), keepsRights_of_untouched rfl⟩

/-- SIGNAL marks the run and calls the interrupt sink, whether or not the run returns (40 R119). -/
theorem keepsRights_signal (x : BitVec 4) (d : Payload) : ∃ t, execSignal x d s = .next t ∧ KeepsRights s t := by
  refine ⟨_, rfl, ?_⟩
  dsimp only
  split
  · exact keepsRights_of_untouched rfl
  · exact keepsRights_of_untouched rfl

/-- Every DCP word keeps to the rights of the channel that executes it (60 R325). -/
theorem exec_keepsRights (i : Instr) (hi : i.isMatte = false) : ∃ t, exec i s = .next t ∧ KeepsRights s t := by
  cases i
  case stop | reloadDcp | reloadDcpStop | reloadVsr | reloadVsrStop | nop | loadMatte | unknownC5 | unknownC8 | unknownCC |
    unknownDD | unknownDE | unknownDF | unknownE0 => exact ⟨_, rfl, keepsRights_of_untouched rfl⟩
  case signal x d => exact keepsRights_signal x d
  case loadDp x d => exact keepsRights_loadDp x d
  case loadClut n d => exact keepsRights_loadClut n d
  case loadIcm d => exact keepsRights_loadIcm d
  case loadCurpat d => exact keepsRights_loadCurpat d
  case loadTc | loadPo | loadBank | loadTcolA | loadTcolB | loadMcolA | loadMcolB | loadDyuvA | loadDyuvB | loadCurpos |
    loadCurctl | loadBackdrop | loadMosaicA | loadMosaicB | loadIcfA | loadIcfB =>
    exact ⟨_, rfl, keepsRights_loadReg _ _ rfl⟩
  case mEnd | mRsvd1 | mRsvd2 | mRsvd3 | mIcfA | mRsvd5 | mIcfB | mRsvd7 | mClr | mSet | mRsvdA | mRsvdB | mIcfAClr |
    mIcfASet | mIcfBClr | mIcfBSet => cases (show true = false from hi)

end Rights

end Sys2Proof.Machine

namespace Sys2Proof.Proofs.Exceptions

open Sys2Proof.Machine

/-- Settles O46: the listed registers are those whose rights leave the channel out. -/
theorem channelsKeepToTheirRegisters : Obligations.ChannelsKeepToTheirRegisters := by
  intro i s t hi hexec
  obtain ⟨u, hu, hregs, hcurpat, hclut, hdp⟩ := exec_keepsRights (s := s) i hi
  cases hu.symm.trans hexec
  refine ⟨fun hch => ?_, fun hch hnot => ?_⟩ <;> rw [hch] at hregs hcurpat hdp
  · have hrights : ∀ x ∈ [Reg.icm, .tc, .po, .backdrop, .curpos, .curctl, .tcol .a, .mcol .a, .dyuv .a, .mosaic .a, .icf .a],
        x.rights = .aOnly := by decide
    exact ⟨fun x hx => hregs x (by rw [hrights x hx]; rfl), hcurpat rfl, hclut hch, hdp⟩
  · have hrights : ∀ x ∈ [Reg.tcol .b, .mcol .b, .dyuv .b, .mosaic .b, .icf .b], x.rights = .bOnly := by decide
    exact ⟨fun x hx => hregs x (by rw [hrights x hx]; exact hnot), hdp⟩

/-- Settles O42: one case for each phase of the block. -/
theorem faultRecordIsNeverCleared : Obligations.FaultRecordIsNeverCleared := by
  intro s t f ht hfault
  cases hphase : s.phase with
  | idle =>
    cases (step_idle hphase).symm.trans ht
    exact idleStep_keeps_fault hfault
  | run => exact runStep_keeps_fault ((step_run hphase).symm.trans ht) hfault
  | matte => exact matteStep_keeps_fault ((step_matte hphase).symm.trans ht) hfault
  | pixels =>
    cases (step_pixels hphase).symm.trans ht
    exact pixelStep_keeps_fault hfault

/-- Settles O9: the budget check comes first, then the alignment check, and an aligned word is followed by another. -/
theorem misalignedFetchFaults : Obligations.MisalignedFetchFaults := by
  intro s hrun hfault
  rw [step_run hrun]
  exact ⟨fun hbudget hpc => ⟨_, runStep_of_misaligned hbudget hpc, raise_faulted _ hfault⟩,
    fun hbudget => ⟨_, runStep_of_no_budget hbudget, hfault⟩, Config.next_word_aligned s.cfg⟩

/-- Settles O43: serving an operation looks at the fault record first. -/
theorem faultedBlockIsQuiescent : Obligations.FaultedBlockIsQuiescent :=
  fun _ _ _ _ hidle hfault hcall => step_op_of_fault hidle hfault hcall

/-- Settles O28: the bits of the two registers that Reset writes, on the state without the call. -/
theorem resetClearsWhatTheSpecNames : Obligations.ResetClearsWhatTheSpecNames := by
  intro s rest hidle hfault hcall
  refine ⟨_, step_op hidle hfault hcall, fun i hi => doReset_icm_getLsbD { s with calls := rest } hi, fun hfields => ?_,
    doReset_codingMethod { s with calls := rest }, fun i hi => doReset_curctl_getLsbD { s with calls := rest } hi,
    fun z => doReset_reg_other { s with calls := rest }, rfl, fun _ => rfl⟩
  rw [hfields]
  exact ⟨rfl, rfl⟩

end Sys2Proof.Proofs.Exceptions
